-- ==== Sys2Proof/Word.lean ====
section
/-! DEFINITION. The word types of the Codaz 4810 and the joining of two halves into a word. -/

set_option Elab.async false

namespace Sys2Proof

/-- One byte of the exchange memory or of a serial link. -/
abbrev Byte := BitVec 8

/-- One half of a memory word, a card parameter or a register half (00, Conventions). -/
abbrev Half := BitVec 16

/-- One word of the exchange memory (R192). -/
abbrev Word := BitVec 32

/-- The number of a word of the exchange memory, 0..16383 (11, Exchange Memory). -/
abbrev WordIdx := BitVec 14

/-- The word whose low half and high half are given, low half first as the layout tables name them (00). -/
def joinHalves (lo hi : Half) : Word := hi ++ lo

/-- The low half of a word: bits 15-0. -/
def lowHalf (w : Word) : Half := w.extractLsb' 0 16

/-- The high half of a word: bits 31-16. -/
def highHalf (w : Word) : Half := w.extractLsb' 16 16

/-- The word whose two halves hold the given numbers, each modulo 65536. -/
def packHalves (lo hi : Nat) : Word := joinHalves (BitVec.ofNat 16 lo) (BitVec.ofNat 16 hi)

end Sys2Proof
end

