-- ==== Sys2Proof/Config.lean ====
section
/-! DEFINITION. What the part fixes: identity, memory map, code tables. The manual leaves no value of a step undefined,
so no free value (opaque constant) stands here (log 23). -/

namespace Sys2Proof.Config

/-- Part code read in the low half of IDENT (R198, register window). -/
def partCode : Half := 0x4810

/-- Revision read in IDENT bits 7-0 of the high half (register window). -/
def revision : Nat := 1

/-- First word of the card table: card 0 starts at byte 0x0100 (11, 12). -/
def cardBase : Nat := 64

/-- Words in one order card (12). -/
def cardWords : Nat := 16

/-- First word of scan page 0 (0x1000) and of scan page 1 (0x3600) (R181). -/
def pageBase (page1 : Bool) : Nat := if page1 then 3456 else 1024

/-- The last word of a scan page (R185). -/
def pageLastWord : Nat := 2431

/-- The highest count of a bin channel (R67). -/
def binCountCap : Nat := 4095

/-- Frames the two-slot buffer of a head link receiver holds (R36). -/
def linkSlots : Nat := 2

/-- Bad frames in a row at which the HEAD_LINK condition is present (R38). -/
def headLinkBad : Nat := 8

/-- Entries the streak list holds (R144). -/
def streakMax : Nat := 8

/-- REFCLK periods of one millisecond at 16.000 MHz (02): the tick divider's unit. -/
def refclkPerMs : Nat := 16000

/-- Service tick interval in milliseconds for a tick code (02, settings table). -/
def tickMs (code : Nat) : Nat := [1, 2, 5, 10, 20, 50].getD code 0

/-- REFCLK periods of one sample period for a sample code (02). -/
def samplePeriods (code : Nat) : Nat := [4000, 8000, 16000, 32000].getD code 0

/-- REFCLK periods of one half period of the horn for a tone code (R164). -/
def hornHalfPeriods (tone : Nat) : Nat := [16000, 8000, 4000, 2000].getD tone 0

end Sys2Proof.Config
end

