-- ==== Sys2Proof/Syntax.lean ====
section
/-! DEFINITION. The commands of the 4810: one constructor of `Instr` for each row of opcode_table.json, with the operands the
row's step takes from outside (log 24), and the orders that cards carry (12, table of orders). -/

namespace Sys2Proof

/-- The upper or the lower beam: its carriage, its head and its head link (00, the scanner the 4810 serves). -/
inductive Beam where
  | upper | lower
  deriving DecidableEq, Repr

/-- Direction of travel: FORWARD runs from the tending side toward the drive side (00). -/
inductive Direction where
  | forward | reverse
  deriving DecidableEq, Repr

/-- One of a carriage's two end-of-travel limit switches. -/
inductive Limit where
  | tending | drive
  deriving DecidableEq, Repr

/-- The raw channels (00). -/
inductive Channel where
  | mass | water | cal
  deriving DecidableEq, Repr

/-- The profiles (00). -/
inductive Profile where
  | mass | moist | dry | cal
  deriving DecidableEq, Repr

/-- The twelve alarm kinds in the order of their numbers (08, the alarm table). -/
inductive AlarmKind where
  | sheetBreak | edge | wetStreak | weight | moisture | standardize
  | alignment | travel | headLink | sampleLoss | publish | access
  deriving DecidableEq, Repr

/-- The four register halves whose writes are ignored (R198). -/
inductive IgnoredRegister where
  | identLow | identHigh | controlHigh | noticeHigh
  deriving DecidableEq, Repr

/-- A card slot, 0..15 (12). -/
abbrev Slot := Fin 16

/-- One head link frame, byte by byte as it is clocked in (02, head link frames). -/
inductive HeadFrame where
  | upper (status massHi massLo waterHi waterLo count check : Byte)
  | lower (status calHi calLo count check : Byte)
  deriving DecidableEq, Repr

/-- The events with a row of their own that a service tick can make due (R8, R116, R136, R139). -/
inductive TickEvent where
  | moveTimeout | dwellEnd | externalBreak | probeSheetOn
  deriving DecidableEq, Repr

/-- The order in which the blocks that act at a service tick are taken, where it can be seen (R31: no order is fixed; R62, R135,
R139, R157, R201; log 5). DESIGN CHOICE (log 42): some orders that R31, R157 and R173 leave open are no value of this type; the
entry names them. -/
structure TickOrder where
  /-- BRK_IN is sampled before the point readout hands its mean over (R135, R139). -/
  sampleFirst : Bool
  /-- The status block's values are taken after the point readout and the sampling, and not before either (R62): never between the two,
  which is the model's choice (DESIGN CHOICE, log 42). -/
  refreshAfterPoint : Bool
  /-- The status block's values are taken after the holdoff counting (R157, R165). -/
  refreshAfterHoldoff : Bool
  /-- The status block's values are taken after the idle export link's cycle start (R170). -/
  refreshAfterExport : Bool
  /-- The events that are taken before the status block's values, in this order, as far as they are due then (R201, log 6). -/
  early : List TickEvent
  deriving DecidableEq, Repr

/-- The frame record given by SET_FRAME (01, the frame record; 12, p0 to p11). -/
structure FrameRecord where
  parkTend : Nat
  parkDrive : Nat
  bin0Pos : Nat
  binW : Nat
  nbins : Nat
  probePos : Nat
  approach : Nat
  prescaler : Nat
  skewHold : Nat
  skewFault : Nat
  skewCal : Nat
  moveTimeout : Nat
  deriving DecidableEq, Repr

/-- The five writable fields of a calibration record (03, SET_CAL). -/
structure CalValues where
  gain : Nat
  offset : Int
  refZero : Nat
  driftLimit : Nat
  stepLimit : Nat
  deriving DecidableEq, Repr

/-- The profile settings record (R87). -/
structure ProfileSettings where
  binMin : Nat
  edgeThreshold : Nat
  edgeMargin : Nat
  kMass : Nat
  kMoist : Nat
  kDry : Nat
  kCal : Nat
  kmd : Nat
  staleScans : Nat
  deriving DecidableEq, Repr

/-- The standardization settings (R108). -/
structure StdSettings where
  interval : Nat
  dwell : Nat
  min : Nat
  deriving DecidableEq, Repr

/-- The sheet monitor's settings (R148). `resumeMode` holds the code of R128: PROBE 0, MANUAL 1. -/
structure SheetSettings where
  breakThreshold : Nat
  breakRun : Nat
  brkDebounce : Nat
  resumeMode : Nat
  sheetOnThreshold : Nat
  sheetOnTicks : Nat
  edgeStep : Nat
  streakLimit : Nat
  streakMinWidth : Nat
  massLo : Nat
  massHi : Nat
  moistLo : Nat
  moistHi : Nat
  deriving DecidableEq, Repr

/-- The parameters of a SET_ALARM card, p0 to p4 as the card carries them (R159). -/
structure AlarmCard where
  kind : Nat
  enable : Nat
  severity : Nat
  holdoff : Nat
  latching : Nat
  deriving DecidableEq, Repr

/-- The parameters of a SET_EXPORT card, p0 to p2 (R169). -/
structure ExportCard where
  enable : Nat
  mask : Nat
  div : Nat
  deriving DecidableEq, Repr

/-- The parameters of a SET_GUARD card, p0 to p4: for index 8 p1 is the policy and p2 to p4 are not used (12). -/
structure GuardCard where
  index : Nat
  p1 : Nat
  p2 : Nat
  p3 : Nat
  p4 : Nat
  deriving DecidableEq, Repr

/-- The orders a card may carry, with their parameters (12, table of orders). -/
inductive Order where
  | setFrame (r : FrameRecord)
  | home
  | scan (repeats : Nat)
  | stop (mode : Nat)
  | moveTo (target : Nat)
  | park
  | setTimebase (tickCode sampleCode : Nat)
  | setCal (channel : Nat) (v : CalValues)
  | setProfile (p : ProfileSettings)
  | reseed
  | standardize
  | setStd (p : StdSettings)
  | setSheet (p : SheetSettings)
  | resume
  | setAlarm (c : AlarmCard)
  | ackAlarms (mask : Nat)
  | silenceHorn
  | setHorn (tone : Nat)
  | setExport (c : ExportCard)
  | setGuard (c : GuardCard)
  | clearGuardFault
  deriving DecidableEq, Repr

/-- The commands: one constructor for each row of opcode_table.json. -/
inductive Instr where
  -- resets, start-up and the register window
  | pinReset
  | startUpClear
  | startUpClearEnd
  | softReset (value : Half)
  | setNoticeMask (value : Half)
  | noticeClear (value : Half)
  | nudge (high : Bool) (value : Half)
  | registerWriteIgnored (target : IgnoredRegister) (value : Half)
  -- the ports and the arbiter
  | portALowHalfWrite (addr data : Half)
  | portAHighHalfWrite (addr data : Half)
  | portALowHalfRead (addr : Half)
  | portAHighHalfRead (addr : Half)
  | portBRead (bytes : List Byte)
  | portBWrite (bytes : List Byte)
  | portBOtherCommand (command : Byte) (bytes : List Byte)
  | arbiterGrant
  -- time, links and records
  | serviceTick (brkIn : Bool) (order : TickOrder)
  | queuedCardService
  | sampleStrobe
  | headLinkTransferComplete (frame : HeadFrame)
  | formSampleRecord
  | recordTaken
  -- the sheet
  | sampleBreak
  | externalBreak
  | probeSheetOn
  -- the frame
  | quadratureEdge (c : Beam) (sense : Direction)
  | moveTimeout
  | homeSwitch (c : Beam) (active : Bool)
  | limitSwitch (c : Beam) (limit : Limit) (asserted : Bool)
  | frameOkLow (low : Bool)
  | drvOkLow (c : Beam) (low : Bool)
  -- orders, taken from a card slot
  | setFrame (slot : Slot) (r : FrameRecord)
  | home (slot : Slot)
  | scan (slot : Slot) (repeats : Nat)
  | stopEnd (slot : Slot)
  | stopNow (slot : Slot)
  | moveTo (slot : Slot) (target : Nat)
  | park (slot : Slot)
  | setTimebase (slot : Slot) (tickCode sampleCode : Nat)
  | setCal (slot : Slot) (channel : Nat) (v : CalValues)
  | setProfile (slot : Slot) (p : ProfileSettings)
  | reseed (slot : Slot)
  | standardize (slot : Slot)
  | setStd (slot : Slot) (p : StdSettings)
  | dwellEnd
  | setSheet (slot : Slot) (p : SheetSettings)
  | resume (slot : Slot)
  | holdoffEnd (kind : AlarmKind)
  | setAlarm (slot : Slot) (c : AlarmCard)
  | ackAlarms (slot : Slot) (mask : Nat)
  | silenceHorn (slot : Slot)
  | setHorn (slot : Slot) (tone : Nat)
  | flashHalf
  | hornHalfPeriod
  | setExport (slot : Slot) (c : ExportCard)
  | exportFrameEnd
  | publicationComplete
  | setGuard (slot : Slot) (c : GuardCard)
  | clearGuardFault (slot : Slot)
  | exportFrameStart
  | portBTransferEnd
  deriving DecidableEq, Repr

end Sys2Proof
end

