-- ==== Sys2Proof/WellFormed.lean ====
section
/-! DEFINITION. Which command terms a sender can form: a card parameter is one halfword, a port A address names the half the
command moves, a CONTROL value carries SOFT_RESET as its row says, and a port B command byte is the one its row names. A term
outside these is no command of the part; the ranges of R210, which the order unit checks, are not these checks. -/

namespace Sys2Proof

/-- A card parameter halfword, unsigned (12). -/
def fitsHalf (n : Nat) : Bool := n < 65536

/-- A signed card parameter halfword (12). -/
def fitsSignedHalf (i : Int) : Bool := -32768 ≤ i && i ≤ 32767

def FrameRecord.wf (r : FrameRecord) : Bool :=
  [r.parkTend, r.parkDrive, r.bin0Pos, r.binW, r.nbins, r.probePos, r.approach, r.prescaler, r.skewHold, r.skewFault,
    r.skewCal, r.moveTimeout].all fitsHalf

def CalValues.wf (v : CalValues) : Bool :=
  [v.gain, v.refZero, v.driftLimit, v.stepLimit].all fitsHalf && fitsSignedHalf v.offset

def ProfileSettings.wf (p : ProfileSettings) : Bool :=
  [p.binMin, p.edgeThreshold, p.edgeMargin, p.kMass, p.kMoist, p.kDry, p.kCal, p.kmd, p.staleScans].all fitsHalf

def StdSettings.wf (p : StdSettings) : Bool := [p.interval, p.dwell, p.min].all fitsHalf

def SheetSettings.wf (p : SheetSettings) : Bool :=
  [p.breakThreshold, p.breakRun, p.brkDebounce, p.resumeMode, p.sheetOnThreshold, p.sheetOnTicks, p.edgeStep,
    p.streakLimit, p.streakMinWidth, p.massLo, p.massHi, p.moistLo, p.moistHi].all fitsHalf

def AlarmCard.wf (c : AlarmCard) : Bool := [c.kind, c.enable, c.severity, c.holdoff, c.latching].all fitsHalf

def ExportCard.wf (c : ExportCard) : Bool := [c.enable, c.mask, c.div].all fitsHalf

def GuardCard.wf (c : GuardCard) : Bool := [c.index, c.p1, c.p2, c.p3, c.p4].all fitsHalf

/-- The check of one command. -/
def Instr.wf : Instr → Bool
  | .pinReset => true
  | .startUpClear => true
  | .startUpClearEnd => true
  | .softReset v => v.getLsbD 15
  | .setNoticeMask v => !v.getLsbD 15
  | .noticeClear _ => true
  | .nudge _ _ => true
  | .registerWriteIgnored _ _ => true
  | .portALowHalfWrite a _ => !a.getLsbD 1
  | .portAHighHalfWrite a _ => a.getLsbD 1
  | .portALowHalfRead a => !a.getLsbD 1
  | .portAHighHalfRead a => a.getLsbD 1
  | .portBRead _ => true
  | .portBWrite _ => true
  | .portBOtherCommand c _ => c != 0x03 && c != 0x02
  | .arbiterGrant => true
  | .serviceTick _ _ => true
  | .queuedCardService => true
  | .sampleStrobe => true
  | .headLinkTransferComplete _ => true
  | .formSampleRecord => true
  | .recordTaken => true
  | .sampleBreak => true
  | .externalBreak => true
  | .probeSheetOn => true
  | .quadratureEdge _ _ => true
  | .moveTimeout => true
  | .homeSwitch _ _ => true
  | .limitSwitch _ _ _ => true
  | .frameOkLow _ => true
  | .drvOkLow _ _ => true
  | .setFrame _ r => r.wf
  | .home _ => true
  | .scan _ n => fitsHalf n
  | .stopEnd _ => true
  | .stopNow _ => true
  | .moveTo _ t => fitsHalf t
  | .park _ => true
  | .setTimebase _ t c => fitsHalf t && fitsHalf c
  | .setCal _ c v => fitsHalf c && v.wf
  | .setProfile _ p => p.wf
  | .reseed _ => true
  | .standardize _ => true
  | .setStd _ p => p.wf
  | .dwellEnd => true
  | .setSheet _ p => p.wf
  | .resume _ => true
  | .holdoffEnd _ => true
  | .setAlarm _ c => c.wf
  | .ackAlarms _ m => fitsHalf m
  | .silenceHorn _ => true
  | .setHorn _ t => fitsHalf t
  | .flashHalf => true
  | .hornHalfPeriod => true
  | .setExport _ c => c.wf
  | .exportFrameEnd => true
  | .publicationComplete => true
  | .setGuard _ c => c.wf
  | .clearGuardFault _ => true
  | .exportFrameStart => true
  | .portBTransferEnd => true

/-- A well-formed command. -/
abbrev WellFormed (i : Instr) : Prop := i.wf = true

end Sys2Proof
end

