-- ==== Sys2Proof/Decode.lean ====
section
/-! DEFINITION. The decoder over the rows of opcode_table.json that give bits. No row gives any ("fields": [] throughout): the
4810 is commanded by port accesses, cards, lines and clocks, never by a coded word, so no word spells a command. -/

namespace Sys2Proof

/-- The command that a word spells by the table's bits: none, since no row of the table has bits. -/
def decodeTableWord (_nbits _w : Nat) : Option Instr := none

end Sys2Proof
end

