-- ==== Sys2Proof/Machine/State.lean ====
section
/-! DEFINITION. The state of the 4810: every register, buffer, counter, mode and line of its twelve blocks, as plain data, and
`State.reset`, the pin reset state. Each field names the rule that gives it; INVENTORY.md lists them all. -/

namespace Sys2Proof.Machine

open Sys2Proof

/-! ## Small containers -/

/-- One value for the upper and one for the lower beam. -/
structure PerBeam (α : Type) where
  upper : α
  lower : α
  deriving DecidableEq, Repr

def PerBeam.get {α : Type} (p : PerBeam α) : Beam → α
  | .upper => p.upper
  | .lower => p.lower

def PerBeam.set {α : Type} (p : PerBeam α) (b : Beam) (v : α) : PerBeam α :=
  match b with
  | .upper => { p with upper := v }
  | .lower => { p with lower := v }

/-- The same value on both beams. -/
def PerBeam.both {α : Type} (v : α) : PerBeam α := ⟨v, v⟩

/-- One value for each raw channel. -/
structure Per3 (α : Type) where
  mass : α
  water : α
  cal : α
  deriving DecidableEq, Repr

def Per3.get {α : Type} (p : Per3 α) : Channel → α
  | .mass => p.mass
  | .water => p.water
  | .cal => p.cal

def Per3.set {α : Type} (p : Per3 α) (c : Channel) (v : α) : Per3 α :=
  match c with
  | .mass => { p with mass := v }
  | .water => { p with water := v }
  | .cal => { p with cal := v }

def Per3.ofFn {α : Type} (f : Channel → α) : Per3 α := ⟨f .mass, f .water, f .cal⟩

/-- One value for each profile. -/
structure Per4 (α : Type) where
  mass : α
  moist : α
  dry : α
  cal : α
  deriving DecidableEq, Repr

def Per4.get {α : Type} (p : Per4 α) : Profile → α
  | .mass => p.mass
  | .moist => p.moist
  | .dry => p.dry
  | .cal => p.cal

def Per4.ofFn {α : Type} (f : Profile → α) : Per4 α := ⟨f .mass, f .moist, f .dry, f .cal⟩

/-! ## Start-up, memory and notices -/

/-- Where the part stands between pin reset and service (R192). -/
inductive Phase where
  /-- RST is low: every block is held in its pin reset state. -/
  | held
  /-- The start-up clear runs and writes word `next` next. -/
  | clearing (next : WordIdx)
  /-- READY is 1. -/
  | running
  deriving DecidableEq, Repr

/-- The exchange memory as (byte address, byte) pairs in canonical form: addresses strictly rising, no listed byte 0. -/
abbrev Memory := List Host.Cell

/-- The seven notices in the order of their bits (R198). -/
inductive Notice where
  | card | scan | alarm | sheet | traverse | std | guard
  deriving DecidableEq, Repr

/-- The five requesters of the arbiter in ring order (R193). -/
inductive Requester where
  | portA | portB | orderUnit | profileEngine | statusRefresh
  deriving DecidableEq, Repr

/-- A status block refresh in progress: the 64 words taken at the tick and the word written next; word 0 is written last, as
`next = 64` (R201). -/
structure Refresh where
  words : List Word
  next : Nat
  deriving DecidableEq, Repr

/-! ## Lines -/

/-- The input lines of one carriage (01; R14, R25, R27). -/
structure DriveInputs where
  home : Bool
  limT : Bool
  limD : Bool
  drvOk : Bool
  deriving DecidableEq, Repr

/-- The output lines. RUN, CREEP and DIR of each carriage (R5), ATTN (R199), LAMP (R161), HORN (R164), XFRM (R168). -/
structure Pins where
  run : PerBeam Bool
  creep : PerBeam Bool
  dir : PerBeam Bool
  attn : Bool
  lamp : Bool
  horn : Bool
  xfrm : Bool
  deriving DecidableEq, Repr

/-! ## Carriage controller (01) -/

/-- The two sides of the frame: a park stands at each. -/
inductive Side where
  | tending | drive
  deriving DecidableEq, Repr

/-- A carriage's position count and edge accumulator (R3). -/
structure Axis where
  pos : Nat
  edges : Int
  deriving DecidableEq, Repr

/-- What a move is for (R7), with the side of its park where the purpose has one. -/
inductive Purpose where
  | seek
  | parkHome
  | traverse (toward : Side)
  | point
  | park (side : Side)
  | breakReturn (side : Side)
  | probe
  /-- RETURN (R7, R24). -/
  | returning (side : Side)
  deriving DecidableEq, Repr

/-- The move record (R6), with the hold of each carriage (R9). SEEK has no target (R7): it holds 0. -/
structure Move where
  purpose : Purpose
  target : Nat
  dir : Direction
  arrived : PerBeam Bool
  held : PerBeam Bool
  timer : Nat
  deriving DecidableEq, Repr

/-- The phases of HOMING (R11). -/
inductive HomingPhase where
  | seek | parkHome
  deriving DecidableEq, Repr

/-- The purposes POSITIONING shows (R11). -/
inductive PositioningPurpose where
  | point | park | returning
  deriving DecidableEq, Repr

/-- The traverse state (R11). The fault cause stands beside it. -/
inductive Traverse where
  | halted
  | homing (phase : HomingPhase)
  | parked (side : Side)
  | standardizing (side : Side)
  | scanning (dir : Direction)
  | positioning (purpose : PositioningPurpose)
  | singlePoint (target : Nat)
  | breakPark (side : Side)
  | probing (holding : Bool)
  | faulted
  deriving DecidableEq, Repr

/-- The fault causes (R28). -/
inductive FaultCause where
  | travelLimit | travelTimeout | alignment | interlock | driveNotReady
  deriving DecidableEq, Repr

/-- The kinds of carriage long orders (R12). -/
inductive LongKind where
  | home | stopEnd | stopNow | moveTo | park
  deriving DecidableEq, Repr

/-- The long-order slot's content (R12). -/
structure LongOrder where
  kind : LongKind
  slot : Slot
  deriving DecidableEq, Repr

/-- A scan plan (R12). -/
inductive Plan where
  | empty | continuous | remaining (count : Nat)
  deriving DecidableEq, Repr

/-- The carriage controller. `long` is the long-order slot. `newer` is a long order that has superseded or abandoned the one in the slot:
it is under way, and takes the slot when the older card has been answered (R12, R212; log 43). -/
structure CarriageController where
  frame : Option FrameRecord
  axis : PerBeam Axis
  valid : Bool
  traverse : Traverse
  cause : Option FaultCause
  move : Option Move
  long : Option LongOrder
  newer : Option LongOrder
  plan : Plan
  nextPlan : Option Plan
  deriving DecidableEq, Repr

/-! ## Time base and head links (02) -/

/-- The time base: settings in force and pending, tick count, strobe number. -/
structure TimeBase where
  tickCode : Nat
  sampleCode : Nat
  next : Option (Nat × Nat)
  tick : Word
  strobe : Word
  deriving DecidableEq, Repr

/-- The last error kind of a receiver (R38). -/
inductive LinkError where
  | none | check | sequence | overrun
  deriving DecidableEq, Repr

/-- A frame held in a receiver's buffer (R36): the upper link's readings are mass and water, the lower link's are caliper and
nothing (0). -/
structure HeldFrame where
  strobe : Word
  status : Byte
  first : Half
  second : Half
  deriving DecidableEq, Repr

/-- A head link receiver (R35 to R39, R43). -/
structure Receiver where
  transfer : Option Word
  slots : List HeldFrame
  bad : Nat
  lastError : LinkError
  lossLimit : Option Word
  settled : Word
  deriving DecidableEq, Repr

/-! ## Measurement engine (02, 03, 04) -/

/-- What the carriage controller captured at a strobe (R4). -/
structure Capture where
  strobe : Word
  pos : Nat
  skew : Int
  dir : Option Direction
  deriving DecidableEq, Repr

/-- A sample record with its converted values beside its raw readings (R40, R53). -/
structure SampleRecord where
  strobe : Word
  pos : Nat
  skew : Int
  dir : Option Direction
  raw : Per3 (Option Nat)
  value : Per3 (Option Nat)
  loss : Bool
  deriving DecidableEq, Repr

/-- The calibration record of one channel (03). -/
structure CalRecord where
  values : CalValues
  zero : Nat
  deriving DecidableEq, Repr

/-- A sum and a count of the values summed. -/
structure Acc where
  sum : Nat
  count : Nat
  deriving DecidableEq, Repr

/-- The bin accumulator of one bin (R65). -/
structure BinAcc where
  acc : Per3 Acc
  gap : Bool
  capped : Bool
  deriving DecidableEq, Repr

/-- The point values (R61): absent values are `none`. -/
structure PointValues where
  mass : Option Nat
  water : Option Nat
  cal : Option Nat
  moist : Option Nat
  dry : Option Nat
  deriving DecidableEq, Repr

/-- The measurement engine. -/
structure Engine where
  cal : Per3 CalRecord
  nextCal : Per3 (Option CalValues)
  calGen : Half
  nextStrobe : Word
  captures : List Capture
  forming : Option SampleRecord
  accs : List BinAcc
  openBin : Option Nat
  binsDone : Nat
  pointAcc : Per3 Acc
  point : PointValues
  deriving DecidableEq, Repr

/-! ## Profile engine (04, 05, 10) -/

/-- The state of a bin in a profile (R73). -/
inductive BinState where
  | notReached | valid | thin | offSheet
  deriving DecidableEq, Repr

/-- A bin result (R73). -/
structure BinResult where
  state : Per4 BinState
  value : Per4 (Option Nat)
  zeroBase : Bool
  count : Per3 Nat
  gap : Bool
  capped : Bool
  deviation : Per4 (Option Int)
  deriving DecidableEq, Repr

/-- The bin map of a scan (R64). -/
structure BinMap where
  bin0Pos : Nat
  binW : Nat
  nbins : Nat
  deriving DecidableEq, Repr

/-- The scan record of the open scan with its list of bin results (R73, R74). -/
structure ScanRecord where
  number : Word
  dir : Direction
  startTick : Word
  calGen : Half
  zeroGen : Half
  map : BinMap
  settings : ProfileSettings
  sampleLoss : Bool
  results : List BinResult
  deriving DecidableEq, Repr

/-- Why a scan was aborted (R75). -/
inductive AbortReason where
  | stop | brk | alignment | travel
  deriving DecidableEq, Repr

/-- The completion of a closed scan (R75). -/
inductive Completion where
  | complete
  | aborted (reason : AbortReason)
  deriving DecidableEq, Repr

/-- The closed-scan table (R83). -/
structure ClosedScan where
  number : Word
  dir : Direction
  startTick : Word
  endTick : Word
  calGen : Half
  zeroGen : Half
  completion : Completion
  map : BinMap
  binsDone : Nat
  edges : Option (Nat × Nat)
  mdAverage : Per4 (Option Nat)
  spread : Per4 (Option Nat)
  sampleLoss : Bool
  bins : List BinResult
  deriving DecidableEq, Repr

/-- The edges record (R85). -/
structure EdgesRecord where
  tend : Nat
  drive : Nat
  scan : Word
  deriving DecidableEq, Repr

/-- An entry of the filtered table (R90). -/
structure FilterEntry where
  f : Int
  age : Nat
  lastUpdate : Bool
  deriving DecidableEq, Repr

/-- An entry of the streak list (R144). -/
structure Streak where
  start : Nat
  width : Nat
  peak : Int
  deriving DecidableEq, Repr

/-- The sheet state (R128). -/
inductive SheetState where
  | unknown | on | off
  deriving DecidableEq, Repr

/-- The publication copy (R184): F with its STALE flag per profile and bin. -/
structure PublicationCopy where
  scan : ClosedScan
  filtered : Per4 (List (Int × Bool))
  mdf : Per4 Int
  filtersUpdated : Bool
  reseeded : Bool
  streaks : List Streak
  more : Bool
  sheet : SheetState
  deriving DecidableEq, Repr

/-- A publication in flight: the chosen page, the copy, and the word written next; word 0, READY, is written last, as
`next = 2432` (R185). -/
structure Publication where
  page1 : Bool
  copy : PublicationCopy
  next : Nat
  deriving DecidableEq, Repr

/-- The choice of a page under way: the copy taken as the close handed it over, and what page 0's state word read as once it has
been read (R182, R184, R193; log 8). -/
structure PageChoice where
  copy : PublicationCopy
  page0Free : Option Bool
  deriving DecidableEq, Repr

/-- The profile engine. -/
structure ProfileEngine where
  settings : ProfileSettings
  nextSettings : Option ProfileSettings
  scanNumber : Word
  openScan : Option ScanRecord
  closed : Option ClosedScan
  edges : Option EdgesRecord
  table : Per4 (List FilterEntry)
  mdf : Per4 Int
  reseed : Bool
  filtersUpdated : Bool
  reseeded : Bool
  sourceScan : Word
  choice : Option PageChoice
  publication : Option Publication
  lastWritten1 : Bool
  lastPublished : Word
  deriving DecidableEq, Repr

/-! ## Standardization unit (06) -/

/-- A channel's standardization outcome in the order of its code (R121). -/
inductive StdOutcome where
  | none | pass | failFew | failDrift | failStep
  deriving DecidableEq, Repr

/-- The dwell in progress (R114). -/
structure Dwell where
  stdDwell : Nat
  stdMin : Nat
  ticks : Nat
  acc : Per3 Acc
  deriving DecidableEq, Repr

/-- The standardization unit. -/
structure StdUnit where
  settings : StdSettings
  count : Nat
  due : Bool
  dwell : Option Dwell
  zeroGen : Half
  outcomes : Per3 StdOutcome
  card : Option Slot
  deriving DecidableEq, Repr

/-! ## Sheet monitor (07) -/

/-- The break source in the order of its code (R128). -/
inductive BreakSource where
  | none | sample | external | noSheet
  deriving DecidableEq, Repr

/-- The sheet monitor. `sampleDue`, `externalDue` and `onDue` are the model's own: a break or a sheet-on whose event has come
and is taken by the command that follows (log 4). -/
structure SheetMonitor where
  settings : SheetSettings
  state : SheetState
  source : BreakSource
  lowRun : Nat
  debounce : Nat
  onRun : Nat
  streaks : List Streak
  more : Bool
  sampleDue : Bool
  externalDue : Bool
  onDue : Bool
  deriving DecidableEq, Repr

/-! ## Alarm unit (08) -/

/-- The state of an alarm entry in the order of its code (R165). -/
inductive AlarmState where
  | normal | holdoff | activeUnacked | activeAcked | returnedUnacked
  deriving DecidableEq, Repr

/-- An entry of the alarm table (R152). -/
structure AlarmEntry where
  enabled : Bool
  major : Bool
  holdoff : Nat
  latching : Bool
  condition : Bool
  state : AlarmState
  remaining : Nat
  deriving DecidableEq, Repr

/-- The alarm unit. `sounding` records whether the horn sounds (R162), from which the wave starts (R164). `flashOn` is the half in which
the flash divider stands (R161); that it is the off half until the divider starts is the model's choice (DESIGN CHOICE, log 47). -/
structure AlarmUnit where
  entries : Vector AlarmEntry 12
  silence : Bool
  tone : Nat
  flashOn : Bool
  sounding : Bool
  deriving DecidableEq, Repr

/-! ## Export link (09) -/

/-- The export settings (09, settings table). -/
structure ExportSettings where
  enable : Bool
  profiles : Per4 Bool
  div : Nat
  deriving DecidableEq, Repr

/-- A bin of an export block (R171). -/
structure ExportBin where
  f : Int
  valid : Bool
  stale : Bool
  offSheet : Bool
  deriving DecidableEq, Repr

/-- The block of one profile in the export copy (R171). -/
structure ExportBlock where
  profile : Profile
  mdf : Int
  bins : List ExportBin
  deriving DecidableEq, Repr

/-- The export copy (R171, R172). -/
structure ExportCopy where
  blocks : List ExportBlock
  nbins : Nat
  sheet : SheetState
  source : Word
  deriving DecidableEq, Repr

/-- The link while it sends: the copy (absent once a soft reset has cut the cycle, R179), the block and the frame of that block
to send or being sent, and the frame being sent. -/
structure Sending where
  copy : Option ExportCopy
  block : Nat
  frame : Nat
  wire : Option (BitVec 48)
  deriving DecidableEq, Repr

/-- The export link. -/
structure ExportLink where
  settings : ExportSettings
  next : Option ExportSettings
  cycle : Half
  sending : Option Sending
  deriving DecidableEq, Repr

/-! ## Ports and guard (11) -/

/-- Port A's latch, read capture (R194) and the half its latest read returned. -/
structure PortA where
  latch : Option (WordIdx × Half)
  capture : Option (WordIdx × Word)
  data : Half
  deriving DecidableEq, Repr

/-- What a port B command byte asks for (R197). -/
inductive TransferKind where
  | read | write | other
  deriving DecidableEq, Repr

/-- A port B transfer in progress (R197): address bytes received, current byte address, byte position in the word, and the word
being shifted out or collected. -/
structure Transfer where
  kind : TransferKind
  addrBytes : List Byte
  addr : Half
  pos : Nat
  word : Word
  deriving DecidableEq, Repr

/-- Port B: the transfer and the bytes shifted out in it. -/
structure PortB where
  transfer : Option Transfer
  out : List Byte
  deriving DecidableEq, Repr

/-- The two ports. -/
inductive Port where
  | a | b
  deriving DecidableEq, Repr

/-- The two kinds of access. -/
inductive AccessKind where
  | read | write
  deriving DecidableEq, Repr

/-- A set of permissions (11, range records). -/
structure Permissions where
  aRead : Bool
  aWrite : Bool
  bRead : Bool
  bWrite : Bool
  deriving DecidableEq, Repr

/-- A range record of the guard (11). -/
structure GuardRange where
  start : Nat
  last : Nat
  perms : Permissions
  enabled : Bool
  deriving DecidableEq, Repr

/-- A latched fault record (R204). -/
structure FaultRecord where
  port : Port
  kind : AccessKind
  addr : Half
  multiple : Bool
  deriving DecidableEq, Repr

/-- The access guard. `deny` is the uncovered policy DENY. -/
structure AccessGuard where
  ranges : Vector GuardRange 8
  deny : Bool
  fault : Option FaultRecord
  deriving DecidableEq, Repr

/-! ## Order unit (12) -/

/-- The block that owns an order (12, table of orders). -/
inductive Owner where
  | carriage | timeBase | measurement | profile | standardization | sheet | alarm | exportLink | guard | orderUnit
  deriving DecidableEq, Repr

/-- A card in flight (12). -/
structure InFlight where
  slot : Slot
  code : Nat
  owner : Owner
  deriving DecidableEq, Repr

/-- An answer decided and not yet wholly written: DONE or REFUSED, result code, result value (R211). `atOnce` says that it is a
refusal of the order unit or was given by an owner that answers at once, and no long order's ending event: what a soft reset lets
stand (R210, R213; DEDUCED, log 41). -/
structure Answer where
  slot : Slot
  done : Bool
  code : Nat
  value : Word
  atOnce : Bool
  deriving DecidableEq, Repr

/-- A card being taken: its slot and the words 1 to 13 read so far (R209). -/
structure CardRead where
  slot : Slot
  words : List Word
  deriving DecidableEq, Repr

/-- A card service running: the slots it has still to examine, in order, and the card it is taking (R208). -/
structure Service where
  left : List Slot
  card : Option CardRead
  deriving DecidableEq, Repr

/-- The order unit. `stage` is the write, 0 to 2, at which the first answer stands (R211). -/
structure OrderUnit where
  lastSlot : Slot
  service : Option Service
  queued : Bool
  inFlight : List InFlight
  answers : List Answer
  stage : Nat
  deriving DecidableEq, Repr

/-! ## The whole machine -/

/-- The state of the 4810 and the queue of commands that wait. -/
structure State where
  phase : Phase
  mem : Memory
  notices : BitVec 7
  mask : BitVec 7
  refresh : Option Refresh
  arbLast : Requester
  frameOk : Bool
  inputs : PerBeam DriveInputs
  pins : Pins
  car : CarriageController
  time : TimeBase
  links : PerBeam Receiver
  eng : Engine
  prof : ProfileEngine
  std : StdUnit
  sheet : SheetMonitor
  alarm : AlarmUnit
  exp : ExportLink
  portA : PortA
  portB : PortB
  guard : AccessGuard
  ord : OrderUnit
  pending : List Instr
  deriving DecidableEq, Repr

/-- Faults that stop the machine: none. Every fault the manual describes is state the machine goes on with (log 23). Safe: no
command is ever cut short. -/
inductive Fault where
  deriving DecidableEq, Repr

/-- Refusals. -/
inductive Refusal where
  /-- Raised by an arm of `exec` for a command without a meaning; no arm of this model raises it. Safe: the machine stops. -/
  | notModelled (mnemonic : String)
  deriving DecidableEq, Repr

/-! ## Reset values -/

/-- Pin reset values of a calibration record (03). -/
def CalRecord.reset : CalRecord :=
  { values := { gain := 16384, offset := 0, refZero := 0, driftLimit := 4000, stepLimit := 1000 }, zero := 0 }

def Acc.zero : Acc := ⟨0, 0⟩

/-- Empty accumulators of three channels. -/
def Acc.zero3 : Per3 Acc := ⟨Acc.zero, Acc.zero, Acc.zero⟩

def BinAcc.zero : BinAcc := ⟨Acc.zero3, false, false⟩

def PointValues.absent : PointValues := ⟨none, none, none, none, none⟩

/-- Pin reset state of a receiver (R45). -/
def Receiver.reset : Receiver :=
  { transfer := none, slots := [], bad := 0, lastError := .none, lossLimit := none, settled := 0 }

/-- Pin reset values of the profile settings (R87). -/
def resetProfileSettings : ProfileSettings :=
  { binMin := 4, edgeThreshold := 1000, edgeMargin := 2, kMass := 4, kMoist := 4, kDry := 4, kCal := 4, kmd := 8,
    staleScans := 10 }

/-- Pin reset values of the sheet settings (R148). -/
def resetSheetSettings : SheetSettings :=
  { breakThreshold := 500, breakRun := 32, brkDebounce := 3, resumeMode := 0, sheetOnThreshold := 1500,
    sheetOnTicks := 50, edgeStep := 3, streakLimit := 150, streakMinWidth := 3, massLo := 0, massHi := 65535,
    moistLo := 0, moistHi := 10000 }

/-- Pin reset value of an alarm entry of the given severity (R152). -/
def AlarmEntry.reset (major : Bool) : AlarmEntry :=
  { enabled := true, major := major, holdoff := 0, latching := true, condition := false, state := .normal,
    remaining := 0 }

/-- The alarm table at pin reset, with the severities of the table of kinds (08). -/
def AlarmUnit.resetEntries : Vector AlarmEntry 12 :=
  #v[AlarmEntry.reset true, AlarmEntry.reset false, AlarmEntry.reset false, AlarmEntry.reset true,
    AlarmEntry.reset true, AlarmEntry.reset false, AlarmEntry.reset true, AlarmEntry.reset true,
    AlarmEntry.reset true, AlarmEntry.reset false, AlarmEntry.reset false, AlarmEntry.reset false]

/-- A range that grants nothing and takes no part: ranges 4 to 7 at pin reset (R207). -/
def GuardRange.unused : GuardRange := ⟨0x0000, 0x00FF, ⟨false, false, false, false⟩, false⟩

/-- The guard's ranges at pin reset (R207). -/
def AccessGuard.resetRanges : Vector GuardRange 8 :=
  #v[⟨0x0000, 0x00FF, ⟨true, false, true, false⟩, true⟩,
    ⟨0x0100, 0x03FF, ⟨true, true, true, false⟩, true⟩,
    ⟨0x0400, 0x04FF, ⟨true, true, true, true⟩, true⟩,
    ⟨0x1000, 0x5BFF, ⟨true, true, true, false⟩, true⟩,
    GuardRange.unused, GuardRange.unused, GuardRange.unused, GuardRange.unused]

/-- Pin reset state of the carriage controller (R29). -/
def CarriageController.reset : CarriageController :=
  { frame := none, axis := .both ⟨0, 0⟩, valid := false, traverse := .halted, cause := none, move := none, long := none,
    newer := none, plan := .empty, nextPlan := none }

/-- Pin reset state of the measurement engine (R45, R47, R63, R86). -/
def Engine.reset : Engine :=
  { cal := ⟨.reset, .reset, .reset⟩, nextCal := ⟨none, none, none⟩, calGen := 0, nextStrobe := 1, captures := [],
    forming := none, accs := [], openBin := none, binsDone := 0, pointAcc := Acc.zero3, point := .absent }

/-- Pin reset state of the profile engine (R29, R86, R89, R106, R191). -/
def ProfileEngine.reset : ProfileEngine :=
  { settings := resetProfileSettings, nextSettings := none, scanNumber := 0, openScan := none, closed := none, edges := none,
    table := ⟨[], [], [], []⟩, mdf := ⟨0, 0, 0, 0⟩, reseed := true, filtersUpdated := false, reseeded := false,
    sourceScan := 0, choice := none, publication := none, lastWritten1 := true, lastPublished := 0 }

/-- Pin reset state of the standardization unit (R126). -/
def StdUnit.reset : StdUnit :=
  { settings := ⟨20, 20, 100⟩, count := 0, due := false, dwell := none, zeroGen := 0,
    outcomes := ⟨.none, .none, .none⟩, card := none }

/-- Pin reset state of the sheet monitor (R150). -/
def SheetMonitor.reset : SheetMonitor :=
  { settings := resetSheetSettings, state := .unknown, source := .none, lowRun := 0, debounce := 0, onRun := 0, streaks := [],
    more := false, sampleDue := false, externalDue := false, onDue := false }

/-- Pin reset state of the export link (R180). -/
def ExportLink.reset : ExportLink :=
  { settings := { enable := false, profiles := ⟨true, true, false, false⟩, div := 3 }, next := none, cycle := 0,
    sending := none }

/-- The machine right after reset: the pin reset state of every block, RST still low (log 1). Levels of input lines are DESIGN
CHOICE (log 2), and so is the half of the flash divider, which does not run yet (log 47). -/
def State.reset : State :=
  { phase := .held
    mem := []
    notices := 0
    mask := 0
    refresh := none
    arbLast := .statusRefresh
    frameOk := true
    inputs := .both { home := false, limT := false, limD := false, drvOk := true }
    pins := { run := .both false, creep := .both false, dir := .both false, attn := false, lamp := false,
              horn := false, xfrm := false }
    car := .reset
    time := { tickCode := 3, sampleCode := 2, next := none, tick := 0, strobe := 0 }
    links := .both .reset
    eng := .reset
    prof := .reset
    std := .reset
    sheet := .reset
    alarm := { entries := AlarmUnit.resetEntries, silence := false, tone := 1, flashOn := false, sounding := false }
    exp := .reset
    portA := { latch := none, capture := none, data := 0 }
    portB := { transfer := none, out := [] }
    guard := { ranges := AccessGuard.resetRanges, deny := false, fault := none }
    ord := { lastSlot := 15, service := none, queued := false, inFlight := [], answers := [], stage := 0 }
    pending := [] }

/-! ## Updates of one block

Each changes one block of the state by a function and leaves every other field as it is; Laws/State.lean holds their lemmas. -/

def State.onCar (s : State) (f : CarriageController → CarriageController) : State := { s with car := f s.car }
def State.onTime (s : State) (f : TimeBase → TimeBase) : State := { s with time := f s.time }
def State.onLinks (s : State) (f : PerBeam Receiver → PerBeam Receiver) : State := { s with links := f s.links }
def State.onEng (s : State) (f : Engine → Engine) : State := { s with eng := f s.eng }
def State.onProf (s : State) (f : ProfileEngine → ProfileEngine) : State := { s with prof := f s.prof }
def State.onStd (s : State) (f : StdUnit → StdUnit) : State := { s with std := f s.std }
def State.onSheet (s : State) (f : SheetMonitor → SheetMonitor) : State := { s with sheet := f s.sheet }
def State.onAlarm (s : State) (f : AlarmUnit → AlarmUnit) : State := { s with alarm := f s.alarm }
def State.onExp (s : State) (f : ExportLink → ExportLink) : State := { s with exp := f s.exp }
def State.onPortA (s : State) (f : PortA → PortA) : State := { s with portA := f s.portA }
def State.onPortB (s : State) (f : PortB → PortB) : State := { s with portB := f s.portB }
def State.onGuard (s : State) (f : AccessGuard → AccessGuard) : State := { s with guard := f s.guard }
def State.onOrd (s : State) (f : OrderUnit → OrderUnit) : State := { s with ord := f s.ord }
def State.onMem (s : State) (f : Memory → Memory) : State := { s with mem := f s.mem }
def State.onInputs (s : State) (f : PerBeam DriveInputs → PerBeam DriveInputs) : State := { s with inputs := f s.inputs }
def State.withNotices (s : State) (n : BitVec 7) : State := { s with notices := n }
def State.withRefresh (s : State) (r : Option Refresh) : State := { s with refresh := r }
def State.withArbLast (s : State) (r : Requester) : State := { s with arbLast := r }

end Sys2Proof.Machine
end

