-- ==== Sys2Proof/Machine/Arith.lean ====
section
/-! DEFINITION. The rounding modes, clamps and comparisons that the manual names (00, Rounding). -/

namespace Sys2Proof.Machine

open Sys2Proof

/-- Quotient of a signed number by an even positive divisor, rounded to nearest with ties away from zero (00). -/
def roundAway (p : Int) (d : Nat) : Int :=
  let q : Int := ((p.natAbs + d / 2) / d : Nat)
  if p < 0 then -q else q

/-- Quotient of non-negative numbers rounded half up, in the integer form the rules give (R61, R70, R80, R117). -/
def divHalfUp (sum count : Nat) : Nat := (sum + count / 2) / count

/-- A mean: absent when nothing was counted (R61, R70, R117). -/
def Acc.mean (a : Acc) : Option Nat := if a.count = 0 then none else some (divHalfUp a.sum a.count)

/-- An accumulator after one more value. -/
def Acc.add (a : Acc) (v : Nat) : Acc := ⟨a.sum + v, a.count + 1⟩

/-- An accumulator after a reading that may be absent: an absent one adds nothing (R60, R115). -/
def Acc.addOpt (a : Acc) (v : Option Nat) : Acc :=
  match v with
  | none => a
  | some v => a.add v

/-- Three accumulators after one record. -/
def addRecord (a : Per3 Acc) (v : Per3 (Option Nat)) : Per3 Acc :=
  ⟨a.mass.addOpt v.mass, a.water.addOpt v.water, a.cal.addOpt v.cal⟩

/-- Clamp of a signed number to 0..65535 (R54). -/
def clampHalf (v : Int) : Nat := if v < 0 then 0 else if 65535 < v then 65535 else v.toNat

/-- Saturation to -32768..32767 (R4, R100). -/
def saturate16 (v : Int) : Int := if v < -32768 then -32768 else if 32767 < v then 32767 else v

/-- The distance of two unsigned numbers. -/
def distance (a b : Nat) : Nat := if a ≤ b then b - a else a - b

/-- Strobe `k` is `l` or lies behind it in the wrapping sense: by less than 2^31 (R43). -/
def atOrBehind (k l : Word) : Bool := decide ((l - k).toNat < 2147483648)

/-- A count that stays at 255 once there (R38, R110, R133, R135). -/
def bump255 (n : Nat) : Nat := if n < 255 then n + 1 else 255

/-- A number for each truth value: bit fields. -/
def bit (b : Bool) (n : Nat) : Nat := if b then 2 ^ n else 0

end Sys2Proof.Machine
end

