-- ==== Sys2Proof/Machine/Ops.lean ====
section
/-! DEFINITION. The named operations that every family shares: the exchange memory, the notices, the registers the lines are
read from, and the answers to cards. -/

namespace Sys2Proof.Machine

open Sys2Proof

/-! ## Exchange memory -/

/-- What a byte that no entry lists reads as: 0, as the start-up clear leaves it (R192, log 25). -/
def Memory.unlisted : Byte := 0

/-- The byte at a byte address. -/
def Memory.read : Memory → Nat → Byte
  | [], _ => Memory.unlisted
  | (k, v) :: m, a => if a = k then v else Memory.read m a

/-- Memory after a byte is written: the canonical form is kept, so writing the unlisted value removes the entry. -/
def Memory.write : Memory → Nat → Byte → Memory
  | [], a, v => if v = Memory.unlisted then [] else [(a, v)]
  | (k, w) :: m, a, v =>
    if a < k then
      if v = Memory.unlisted then (k, w) :: m else (a, v) :: (k, w) :: m
    else if a = k then
      if v = Memory.unlisted then m else (a, v) :: m
    else (k, w) :: Memory.write m a v

/-- The entries rise strictly from `lo`, lie below 65536, and none holds the unlisted value. -/
def Memory.wfFrom (lo : Nat) : Memory → Bool
  | [] => true
  | (k, v) :: m => decide (lo ≤ k) && decide (k < 65536) && decide (v ≠ Memory.unlisted) && Memory.wfFrom (k + 1) m

/-- The canonical form of the exchange memory. -/
def Memory.wf (m : Memory) : Bool := Memory.wfFrom 0 m

/-- Byte address of a word. -/
def wordAddr (w : WordIdx) : Nat := 4 * w.toNat

/-- The half at byte address `a` and `a + 1`, little-endian (00, Memory). -/
def Memory.readHalf (m : Memory) (a : Nat) : Half := m.read (a + 1) ++ m.read a

/-- A whole word, little-endian (00, Memory). -/
def Memory.readWord (m : Memory) (w : WordIdx) : Word :=
  joinHalves (m.readHalf (wordAddr w)) (m.readHalf (wordAddr w + 2))

/-- Memory after the half at byte address `a` is stored. -/
def Memory.writeHalf (m : Memory) (a : Nat) (h : Half) : Memory :=
  (m.write a (h.extractLsb' 0 8)).write (a + 1) (h.extractLsb' 8 8)

/-- Memory after a whole word is stored. -/
def Memory.writeWord (m : Memory) (w : WordIdx) (v : Word) : Memory :=
  (m.writeHalf (wordAddr w) (lowHalf v)).writeHalf (wordAddr w + 2) (highHalf v)

/-- The state after a word is stored at a grant. -/
def State.storeWord (s : State) (w : WordIdx) (v : Word) : State := s.onMem fun m => m.writeWord w v

/-- Word `n` of card `slot` (11: card n starts at 0x0100 + 64 n). -/
def cardWord (slot : Slot) (n : Nat) : WordIdx :=
  BitVec.ofNat 14 (Config.cardBase + Config.cardWords * slot.val + n)

/-- Word `n` of a scan page (10). -/
def pageWordIdx (page1 : Bool) (n : Nat) : WordIdx := BitVec.ofNat 14 (Config.pageBase page1 + n)

/-! ## Notices (R199) -/

/-- The bit of a notice (R198). -/
def Notice.bit : Notice → BitVec 7
  | .card => 0x01
  | .scan => 0x02
  | .alarm => 0x04
  | .sheet => 0x08
  | .traverse => 0x10
  | .std => 0x20
  | .guard => 0x40

/-- Raising a notice sets its flag; a flag already set stays set (R199). -/
def State.raise (s : State) (n : Notice) : State := s.withNotices (s.notices ||| n.bit)

/-- Raising a notice when a condition holds. -/
def State.raiseIf (s : State) (c : Bool) (n : Notice) : State := if c then s.raise n else s

/-! ## The carriage controller as its neighbours read it -/

/-- Skew: upper position minus lower position while positions are valid, 0 otherwise (R4). -/
def skew (s : State) : Int :=
  if s.car.valid then (s.car.axis.upper.pos : Int) - (s.car.axis.lower.pos : Int) else 0

/-- The prescaler the encoders are counted with: 1 without a frame record (R2). -/
def prescaler (c : CarriageController) : Nat :=
  match c.frame with
  | none => 1
  | some f => f.prescaler

/-- The direction captured at a strobe and shown in the status block: that of the move in progress (R4). -/
def moveDirection (c : CarriageController) : Option Direction := c.move.map (·.dir)

/-- The traverse is HALTED or PARKED: the states in which SET_FRAME and SET_TIMEBASE are taken (R1, R33). -/
def Traverse.haltedOrParked : Traverse → Bool
  | .halted => true
  | .parked _ => true
  | _ => false

/-- The traverse is SCANNING. -/
def Traverse.isScanning : Traverse → Bool
  | .scanning _ => true
  | _ => false

/-- The traverse is STANDARDIZING. -/
def Traverse.isStandardizing : Traverse → Bool
  | .standardizing _ => true
  | _ => false

/-- The traverse is HOMING. -/
def Traverse.isHoming : Traverse → Bool
  | .homing _ => true
  | _ => false

/-! ## Answers to cards (R211) -/

/-- The result codes (12). -/
inductive ResultCode where
  | ok | superseded | abandoned | unknownOrder | notPermitted | badParam | busy | notReady
  deriving DecidableEq, Repr

/-- The value of a result code (12, table of result codes). -/
def ResultCode.value : ResultCode → Nat
  | .ok => 1
  | .superseded => 2
  | .abandoned => 3
  | .unknownOrder => 0x10
  | .notPermitted => 0x11
  | .badParam => 0x12
  | .busy => 0x13
  | .notReady => 0x14

/-- A result code stands under DONE; the others stand under REFUSED (12). -/
def ResultCode.isDone : ResultCode → Bool
  | .ok => true
  | .superseded => true
  | .abandoned => true
  | .unknownOrder => false
  | .notPermitted => false
  | .badParam => false
  | .busy => false
  | .notReady => false

/-- The state words of a card (12). -/
def cardPosted : Word := 1
def cardTaken : Word := 2
def cardDone : Word := 3
def cardRefused : Word := 4

/-- The answer of a card has been decided: the order unit has it to write (R211). -/
def queueAnswer (slot : Slot) (c : ResultCode) (value : Word) (atOnce : Bool) (s : State) : State :=
  s.onOrd fun o => { o with answers := o.answers ++ [⟨slot, c.isDone, c.value, value, atOnce⟩] }

/-- The order unit refuses a card, or its owner answers it at once (R210). -/
def answer (slot : Slot) (c : ResultCode) (value : Word) (s : State) : State := queueAnswer slot c value true s

/-- The owner of a long order answers its card at the order's ending event (R212). -/
def answerEnded (slot : Slot) (c : ResultCode) (value : Word) (s : State) : State := queueAnswer slot c value false s

/-- The carriage long order under way: a newer order that waits for the slot, else the one in the slot (R12). -/
def CarriageController.underWay (k : CarriageController) : Option LongOrder := k.newer.or k.long

/-- The long order under way is answered and leaves the slot; with none under way nothing changes (R12). -/
def answerLong (c : ResultCode) (value : Word) (s : State) : State :=
  match s.car.underWay with
  | none => s
  | some l => answerEnded l.slot c value (s.onCar fun k => { k with long := none, newer := none })

/-- A card takes the empty long-order slot (R12). -/
def holdLong (kind : LongKind) (slot : Slot) (s : State) : State :=
  s.onCar fun k => { k with long := some ⟨kind, slot⟩, newer := none }

/-- A card takes the long-order slot from an order that it supersedes or abandons: the older card's answer is decided first and holds
the slot until it is written; an empty slot is taken at once (R12, R212; DEDUCED, log 43). -/
def replaceLong (c : ResultCode) (kind : LongKind) (slot : Slot) (s : State) : State :=
  match s.car.underWay with
  | none => holdLong kind slot s
  | some l => answerEnded l.slot c 0 (s.onCar fun k => { k with long := some l, newer := some ⟨kind, slot⟩ })

/-- The card of a slot has been answered: where it held the long-order slot for a newer order, that order takes the slot (R12,
R212). -/
def passSlot (slot : Slot) (s : State) : State :=
  s.onCar fun k =>
    if k.newer.isSome && k.long.any (fun l => l.slot == slot) then { k with long := k.newer, newer := none } else k

/-- The card is on the list of cards in flight (R208). -/
def inFlight (s : State) (slot : Slot) : Bool := s.ord.inFlight.any fun c => c.slot == slot

end Sys2Proof.Machine
end

