-- ==== Sys2Proof/Machine/Flags.lean ====
section
/-! DEFINITION. The alarm table and its state machine (R152 to R162), and the output lines, which follow the state at the end of
every command (R5, R161, R162, R164, R168, R199). -/

namespace Sys2Proof.Machine

open Sys2Proof

/-! ## The alarm table -/

/-- The number of an alarm kind (08, the alarm table). -/
def kindIdx : AlarmKind → Fin 12
  | .sheetBreak => 0
  | .edge => 1
  | .wetStreak => 2
  | .weight => 3
  | .moisture => 4
  | .standardize => 5
  | .alignment => 6
  | .travel => 7
  | .headLink => 8
  | .sampleLoss => 9
  | .publish => 10
  | .access => 11

/-- The kinds in the order of their numbers. -/
def allKinds : List AlarmKind :=
  [.sheetBreak, .edge, .wetStreak, .weight, .moisture, .standardize, .alignment, .travel, .headLink, .sampleLoss, .publish,
    .access]

/-- The kind of a number, for the cards that carry one. -/
def kindOf (n : Nat) : Option AlarmKind := allKinds[n]?

/-- The entry of a kind. -/
def AlarmUnit.entry (a : AlarmUnit) (k : AlarmKind) : AlarmEntry := a.entries[kindIdx k]

/-- The table with the entry of a kind replaced. -/
def AlarmUnit.setEntry (a : AlarmUnit) (k : AlarmKind) (e : AlarmEntry) : AlarmUnit :=
  { a with entries := a.entries.set (kindIdx k) e }

/-- The entry is unacknowledged (R152). -/
def AlarmEntry.unacked (e : AlarmEntry) : Bool := e.state == .activeUnacked || e.state == .returnedUnacked

/-- The state an enabled entry takes when its condition appears (R156). -/
def AlarmEntry.appear (e : AlarmEntry) : AlarmEntry :=
  match e.state with
  | .normal =>
    if e.holdoff = 0 then { e with state := .activeUnacked } else { e with state := .holdoff, remaining := e.holdoff }
  | .returnedUnacked => { e with state := .activeUnacked }
  | _ => e

/-- The state an enabled entry takes when its condition goes (R156). -/
def AlarmEntry.go (e : AlarmEntry) : AlarmEntry :=
  match e.state with
  | .holdoff => { e with state := .normal, remaining := 0 }
  | .activeUnacked => { e with state := if e.latching then .returnedUnacked else .normal }
  | .activeAcked => { e with state := .normal }
  | _ => e

/-- The entry after its owner gives its condition: a level it already holds changes nothing, a disabled entry only keeps the
condition current (R153). -/
def AlarmEntry.give (e : AlarmEntry) (present : Bool) : AlarmEntry :=
  if e.condition = present then e
  else
    let e := { e with condition := present }
    if e.enabled then (if present then e.appear else e.go) else e

/-- The entry after an acknowledgement (R158). -/
def AlarmEntry.ack (e : AlarmEntry) : AlarmEntry :=
  match e.state with
  | .activeUnacked => { e with state := .activeAcked }
  | .returnedUnacked => { e with state := .normal }
  | _ => e

/-- NORMAL, and then the appearance of a condition that is present: the restart of R159, and the re-evaluation of R167. -/
def AlarmEntry.restart (e : AlarmEntry) : AlarmEntry :=
  let e := { e with state := .normal, remaining := 0 }
  if e.condition then e.appear else e

/-- The change of an entry is the entry of a MAJOR entry into ACTIVE_UNACKED, which clears the silence flag (R162). `entered`
says that a state ACTIVE_UNACKED after the change was newly entered. -/
def clearsSilence (e : AlarmEntry) (entered : Bool) : Bool := e.major && e.state == .activeUnacked && entered

/-- The horn sounds while an enabled MAJOR entry is unacknowledged and the silence flag is clear (R162). -/
def hornSounds (a : AlarmUnit) : Bool :=
  a.entries.toList.any (fun e => e.enabled && e.major && e.unacked) && !a.silence

/-- A change of the alarm unit that leaves the horn silent ends its sounding at once, so that it begins anew when it sounds again within
the same command (R164). -/
def AlarmUnit.heard (a : AlarmUnit) : AlarmUnit := { a with sounding := a.sounding && hornSounds a }

/-- Replacing an entry by a state change of R156 to R158: ALARM is raised when the state changes (R160), and the silence flag
is cleared by a MAJOR entry into ACTIVE_UNACKED (R162). -/
def moveEntry (k : AlarmKind) (e' : AlarmEntry) (s : State) : State :=
  let changed := (s.alarm.entry k).state != e'.state
  let s := s.onAlarm fun a =>
    ({ a.setEntry k e' with silence := if clearsSilence e' changed then false else a.silence } : AlarmUnit).heard
  s.raiseIf changed .alarm

/-- An owner gives its kind's condition to the alarm unit (R153). -/
def giveCondition (k : AlarmKind) (present : Bool) (s : State) : State :=
  moveEntry k ((s.alarm.entry k).give present) s

/-- An entry's holdoff has run out (R157). -/
def holdoffOver (e : AlarmEntry) : Bool := e.state == .holdoff && e.remaining == 0

/-- The end of the holdoff of a kind whose holdoff has run out (R157). -/
def endHoldoff (k : AlarmKind) (s : State) : State :=
  if holdoffOver (s.alarm.entry k) then moveEntry k { s.alarm.entry k with state := .activeUnacked } s else s

/-- An entry after the end of its holdoff, if that has run out (R157). -/
def AlarmEntry.endHoldoff (e : AlarmEntry) : AlarmEntry := if holdoffOver e then { e with state := .activeUnacked } else e

/-- The table with one change made to every entry. -/
def AlarmUnit.mapEntries (a : AlarmUnit) (f : AlarmEntry → AlarmEntry) : AlarmUnit :=
  { a with entries := a.entries.mapIdx fun _ e => f e }

/-- The end of every holdoff that has run out, with ALARM raised and, for a MAJOR entry, the silence flag cleared (R157, R160,
R162). -/
def endHoldoffs (s : State) : State :=
  let ended := s.alarm.entries.toList.filter holdoffOver
  (s.onAlarm fun a =>
    { a.mapEntries AlarmEntry.endHoldoff with
      silence := if ended.any (·.major) then false else a.silence }).raiseIf (!ended.isEmpty) .alarm

/-- At least one entry is unacknowledged, and so on: the LAMP pattern (R161). -/
inductive LampPattern where
  | off | steady | flashing
  deriving DecidableEq, Repr

/-- The LAMP pattern of the table as it stands (R161). -/
def lampPattern (a : AlarmUnit) : LampPattern :=
  if a.entries.toList.any AlarmEntry.unacked then .flashing
  else if a.entries.toList.any (fun e => e.state == .activeAcked) then .steady
  else .off

/-! ## Output lines -/

/-- RUN of a carriage (R5): a move is in progress, the carriage has not arrived, is not held, and its DRV_OK is high. -/
def runLine (s : State) (b : Beam) : Bool :=
  match s.car.move with
  | none => false
  | some m => !m.arrived.get b && !m.held.get b && (s.inputs.get b).drvOk

/-- CREEP of a carriage (R5): asserted during the seek phase until the carriage is zeroed (R14), and in any other move while
the distance to the target is at most approach, until the carriage arrives. -/
def creepLine (s : State) (b : Beam) : Bool :=
  match s.car.move with
  | none => false
  | some m =>
    !m.arrived.get b &&
      (m.purpose == .seek ||
        match s.car.frame with
        | none => false
        | some f => decide (distance (s.car.axis.get b).pos m.target ≤ f.approach))

/-- DIR of a carriage (R5): the direction of the move in progress, else its last value. High is forward. -/
def dirLine (s : State) (b : Beam) : Bool :=
  match s.car.move with
  | none => s.pins.dir.get b
  | some m => m.dir == .forward

/-- ATTN: a flag is set whose bit is 1 in the mask (R199). -/
def attnLine (s : State) : Bool := s.notices &&& s.mask != 0

/-- LAMP level (R161). -/
def lampLine (a : AlarmUnit) : Bool :=
  match lampPattern a with
  | .off => false
  | .steady => true
  | .flashing => a.flashOn

/-- HORN level (R164): high as the horn begins to sound, low as it falls silent, the wave's level in between. `sounding` is off once the
horn has fallen silent, also where it sounds again within the same command. A restart of an entry and a soft reset count as one change
of the table, after which alone the horn is judged (DESIGN CHOICE, log 37). -/
def hornLine (s : State) : Bool := hornSounds s.alarm && (!s.alarm.sounding || s.pins.horn)

/-- XFRM: high while a frame is being sent (R168). -/
def xfrmLine (s : State) : Bool :=
  match s.exp.sending with
  | none => false
  | some d => d.wire.isSome

/-- The output lines brought to the state: every command ends with this, once. A move that starts and ends inside one command
therefore moves no line, and DIR keeps the value it had before that command (DESIGN CHOICE, log 34). -/
def driveLines (s : State) : State :=
  { s with
    pins :=
      { run := ⟨runLine s .upper, runLine s .lower⟩
        creep := ⟨creepLine s .upper, creepLine s .lower⟩
        dir := ⟨dirLine s .upper, dirLine s .lower⟩
        attn := attnLine s
        lamp := lampLine s.alarm
        horn := hornLine s
        xfrm := xfrmLine s }
    alarm := { s.alarm with sounding := hornSounds s.alarm } }

/-- The end of every command: its effect, then the lines that follow from it. -/
def done (s : State) : Host.Outcome State Fault Refusal := .next (driveLines s)

/-- A command that acts only while READY is 1: at any other time the part is held in reset or clearing its memory, and the
command changes nothing (R192, log 27). -/
def whenRunning (s : State) (f : State → State) : State :=
  match s.phase with
  | .running => f s
  | _ => s

end Sys2Proof.Machine
end

