-- ==== Sys2Proof/Machine/Measure.lean ====
section
/-! DEFINITION. Conversion, derived quantities, the bin map, the bin accumulators and the closing of a bin (03, 04). -/

namespace Sys2Proof.Machine

open Sys2Proof

/-! ## Conversion (R54) -/

/-- The conversion of a raw reading in five steps: difference, product, scaling, offset, clamp (R54). -/
def convert (c : CalRecord) (raw : Nat) : Nat :=
  let d : Int := (raw : Int) - (c.zero : Int)
  let p := d * (c.values.gain : Int)
  let q := roundAway p 16384
  clampHalf (q + c.values.offset)

/-- Each present reading converted in its own channel; an absent one stays absent (R53). -/
def convertRecord (cal : Per3 CalRecord) (raw : Per3 (Option Nat)) : Per3 (Option Nat) :=
  ⟨raw.mass.map (convert cal.mass), raw.water.map (convert cal.water), raw.cal.map (convert cal.cal)⟩

/-! ## Derived quantities -/

/-- The moisture ratio from a mass mean and a water mean (R55). -/
def deriveMoist (m w : Option Nat) : Option Nat :=
  match m, w with
  | some m, some w => if m = 0 then none else some (min ((w * 10000 + m / 2) / m) 10000)
  | _, _ => none

/-- The ZERO_BASE flag: both means present and the mass mean 0 (R55, R72). -/
def zeroBase (m w : Option Nat) : Bool :=
  match m, w with
  | some m, some _ => decide (m = 0)
  | _, _ => false

/-- The dry weight from the two means, clamped at 0 (R56). -/
def deriveDry (m w : Option Nat) : Option Nat :=
  match m, w with
  | some m, some w => some (m - w)
  | _, _ => none

/-! ## Point values (R61) -/

/-- The five point values read out of the point accumulators (R61). -/
def pointValues (a : Per3 Acc) : PointValues :=
  let m := a.mass.mean
  let w := a.water.mean
  { mass := m, water := w, cal := a.cal.mean, moist := deriveMoist m w, dry := deriveDry m w }

/-! ## The bin map -/

/-- The bin map a frame record gives (R64). -/
def binMap (f : FrameRecord) : BinMap := ⟨f.bin0Pos, f.binW, f.nbins⟩

/-- The bin of a position, or none outside the span (R64). -/
def BinMap.binOf (m : BinMap) (pos : Nat) : Option Nat :=
  if pos < m.bin0Pos then none
  else
    let b := (pos - m.bin0Pos) / m.binW
    if b < m.nbins then some b else none

/-- Bin `a` is ahead of bin `b` in a scan of the given direction (R64). -/
def isAhead (dir : Direction) (a b : Nat) : Bool :=
  match dir with
  | .forward => decide (b < a)
  | .reverse => decide (a < b)

/-- How many bins lie before a bin in the order of travel from the start-side bin (R64, R66). -/
def travelIndex (dir : Direction) (nbins b : Nat) : Nat :=
  match dir with
  | .forward => b
  | .reverse => nbins - 1 - b

/-! ## Bin results -/

/-- The result of a bin closed as NOT_REACHED, or not closed yet (R73). -/
def BinResult.notReached : BinResult :=
  { state := ⟨.notReached, .notReached, .notReached, .notReached⟩, value := ⟨none, none, none, none⟩, zeroBase := false,
    count := ⟨0, 0, 0⟩, gap := false, capped := false, deviation := ⟨none, none, none, none⟩ }

/-- VALID when the condition holds, THIN otherwise (R71, R72). -/
def validOrThin (v : Bool) : BinState := if v then .valid else .thin

/-- The bin result read out of an accumulator under a bin_min (R70 to R72). -/
def binResult (binMin : Nat) (a : BinAcc) : BinResult :=
  let m := a.acc.mass.mean
  let w := a.acc.water.mean
  let massFull := decide (binMin ≤ a.acc.mass.count)
  let waterFull := decide (binMin ≤ a.acc.water.count)
  let calFull := decide (binMin ≤ a.acc.cal.count)
  let moist := deriveMoist m w
  let dry := deriveDry m w
  { state :=
      { mass := validOrThin massFull
        moist := validOrThin (massFull && waterFull && moist.isSome)
        dry := validOrThin (massFull && waterFull && dry.isSome)
        cal := validOrThin calFull }
    value := { mass := m, moist := moist, dry := dry, cal := a.acc.cal.mean }
    zeroBase := zeroBase m w
    count := ⟨a.acc.mass.count, a.acc.water.count, a.acc.cal.count⟩
    gap := a.gap
    capped := a.capped
    deviation := ⟨none, none, none, none⟩ }

/-- A channel of a bin accumulator after one value: at the cap the value is not added (R67). -/
def Acc.addCapped (a : Acc) (v : Option Nat) : Acc :=
  match v with
  | none => a
  | some v => if a.count < Config.binCountCap then a.add v else a

/-- The value is refused at the cap (R67). -/
def Acc.refuses (a : Acc) (v : Option Nat) : Bool := v.isSome && decide (Config.binCountCap ≤ a.count)

/-- A bin accumulator after one record (R67). -/
def BinAcc.addRecord (b : BinAcc) (v : Per3 (Option Nat)) : BinAcc :=
  { acc := ⟨b.acc.mass.addCapped v.mass, b.acc.water.addCapped v.water, b.acc.cal.addCapped v.cal⟩
    gap := b.gap
    capped := b.capped || b.acc.mass.refuses v.mass || b.acc.water.refuses v.water || b.acc.cal.refuses v.cal }

/-! ## Assigning a record to a bin -/

/-- The open scan's record changed, when a scan is open. -/
def onOpenScan (f : ScanRecord → ScanRecord) (s : State) : State :=
  s.onProf fun p => { p with openScan := p.openScan.map f }

/-- The open bin, if there is one, is closed: its accumulator is read out into its bin result, bins_done rises by 1, and no bin
is open (R70, R76). -/
def closeOpenBin (s : State) : State :=
  match s.eng.openBin, s.prof.openScan with
  | some b, some sc =>
    let r := binResult sc.settings.binMin (s.eng.accs.getD b BinAcc.zero)
    let s := onOpenScan (fun sc => { sc with results := sc.results.set b r }) s
    s.onEng fun e => { e with openBin := none, binsDone := e.binsDone + 1 }
  | _, _ => s

/-- Bins that close as NOT_REACHED when the scan moves to bin `b`: those strictly between the open bin and `b`, or, with no bin
open, those from the start-side bin up to `b` (R68). Their entries stand as NOT_REACHED already (R73). -/
def skippedBins (sc : ScanRecord) (openBin : Option Nat) (b : Nat) : Nat :=
  match openBin with
  | some o => distance o b - 1
  | none => travelIndex sc.dir sc.map.nbins b

/-- The record's bin is made the open bin, the bins before it closed (R68). -/
def moveToBin (sc : ScanRecord) (b : Nat) (s : State) : State :=
  let skipped := skippedBins sc s.eng.openBin b
  let s := closeOpenBin s
  s.onEng fun e => { e with openBin := some b, binsDone := e.binsDone + skipped }

/-- The record is added to a bin's accumulator (R67). -/
def addToBin (b : Nat) (v : Per3 (Option Nat)) (s : State) : State :=
  s.onEng fun e => { e with accs := e.accs.modify b fun a => a.addRecord v }

/-- A record that carries the loss mark marks the bin open after it has been taken GAP, and the scan SAMPLE_LOSS (R44). -/
def markLoss (loss : Bool) (s : State) : State :=
  match loss, s.eng.openBin with
  | true, some b =>
    let s := s.onEng fun e => { e with accs := e.accs.modify b fun a => { a with gap := true } }
    onOpenScan (fun sc => { sc with sampleLoss := true }) s
  | _, _ => s

/-- The bin a record is assigned to: none when its position lies outside the span or its captured direction is not the scan's
(R64). -/
def recordBin (sc : ScanRecord) (r : SampleRecord) : Option Nat :=
  if r.dir = some sc.dir then sc.map.binOf r.pos else none

/-- The binning logic takes a record (R66 to R69, R44). -/
def binRecord (r : SampleRecord) (s : State) : State :=
  match s.prof.openScan with
  | none => s
  | some sc =>
    let s :=
      match recordBin sc r with
      | none => s
      | some b =>
        match s.eng.openBin with
        | none => addToBin b r.value (moveToBin sc b s)
        | some o =>
          if b = o then addToBin b r.value s
          else if isAhead sc.dir b o then addToBin b r.value (moveToBin sc b s)
          else s
    markLoss r.loss s

end Sys2Proof.Machine
end

