-- ==== Sys2Proof/Machine/Sheet.lean ====
section
/-! DEFINITION. What the sheet monitor does by itself: the effects of a break and of a sheet-on, the break detector, the break
line, the sheet-on run, and the per-scan conditions (07). What the carriages do about a break stands in Motion.lean. -/

namespace Sys2Proof.Machine

open Sys2Proof

/-! ## Breaks -/

/-- Steps 1 to 5 of R129, taken while the sheet is UNKNOWN or ON. A SAMPLE break that is due stays due: it is taken when its own
record's formation ends, and finds the sheet as it then is (R134, R138). -/
def breakEffects (src : BreakSource) (s : State) : State :=
  let s := s.onSheet fun m =>
    { m with state := .off, source := src, lowRun := 0, onRun := 0, streaks := [], more := false, onDue := false }
  let s := giveCondition .edge false s
  let s := giveCondition .wetStreak false s
  let s := giveCondition .sheetBreak true s
  s.raise .sheet

/-- A break that makes no request: a break taken while the sheet is OFF changes nothing (R129, R137). -/
def takeBreakQuiet (src : BreakSource) (s : State) : State :=
  if s.sheet.state = .off then s else breakEffects src s

/-- The SAMPLE break is due: its record has brought the run to break_run and its formation has ended (R134). -/
def sampleBreakDue (s : State) : Bool := s.sheet.sampleDue && s.eng.forming.isNone

/-- A SAMPLE break that is due is taken and makes no request; a sheet already OFF has its low-run counter set to 0 (R134, R138). -/
def takeSampleQuiet (s : State) : State :=
  if sampleBreakDue s then takeBreakQuiet .sample (s.onSheet fun m => { m with sampleDue := false, lowRun := 0 }) else s

/-- An EXTERNAL break that is due is taken and makes no request (R136, R138). -/
def takeExternalQuiet (s : State) : State :=
  if s.sheet.externalDue then takeBreakQuiet .external (s.onSheet fun m => { m with externalDue := false }) else s

/-- The breaks that fall together with the arrival of a TRAVERSE move and are taken after it: they find the scan closed and make no
request (R138). SAMPLE goes before EXTERNAL (DESIGN CHOICE, log 44). -/
def takeDueBreaks (s : State) : State := takeExternalQuiet (takeSampleQuiet s)

/-- Steps 1 to 5 of R141. A SAMPLE break that is due stays due and turns the sheet OFF again (R138). -/
def sheetOnEffects (s : State) : State :=
  let s := s.onSheet fun m => { m with state := .on, onRun := 0, lowRun := 0, onDue := false }
  let s := s.onProf fun p => { p with reseed := true }
  let s := giveCondition .sheetBreak false s
  s.raise .sheet

/-! ## The break detector -/

/-- The on-sheet window: first and last position, under the frame record in force (R132). -/
def sheetWindow (f : FrameRecord) (e : Option EdgesRecord) : Nat × Nat :=
  match e with
  | none => (f.bin0Pos, f.bin0Pos + f.nbins * f.binW - 1)
  | some e => (f.bin0Pos + e.tend * f.binW, f.bin0Pos + (e.drive + 1) * f.binW - 1)

/-- The record lies inside the window (R132). -/
def insideWindow (s : State) (pos : Nat) : Bool :=
  match s.car.frame with
  | none => false
  | some f => decide ((sheetWindow f s.prof.edges).1 ≤ pos) && decide (pos ≤ (sheetWindow f s.prof.edges).2)

/-- The break detector judges records in these traverse states only (R133). -/
def Traverse.watchesSheet : Traverse → Bool
  | .scanning _ => true
  | .singlePoint _ => true
  | _ => false

/-- The low-run counter after a record (R133). -/
def nextLowRun (s : State) (r : SampleRecord) : Nat :=
  if s.car.traverse.watchesSheet && insideWindow s r.pos then
    match r.value.mass with
    | none => s.sheet.lowRun
    | some m => if m < s.sheet.settings.breakThreshold then bump255 s.sheet.lowRun else 0
  else 0

/-- The record counts as a low reading inside the window (R133). -/
def isLow (s : State) (r : SampleRecord) : Bool :=
  s.car.traverse.watchesSheet && insideWindow s r.pos &&
    match r.value.mass with
    | none => false
    | some m => decide (m < s.sheet.settings.breakThreshold)

/-- The break detector judges a record: the counter changes, and a low reading that brings it to break_run or above leaves a
SAMPLE break to be taken when the record's formation ends (R133, R134). -/
def judgeRecord (r : SampleRecord) (s : State) : State :=
  let run := nextLowRun s r
  let due := isLow s r && decide (s.sheet.settings.breakRun ≤ run)
  s.onSheet fun m => { m with lowRun := run, sampleDue := due }

/-! ## The break line and the sheet-on run -/

/-- BRK_IN is sampled at a service tick: the debounce counter changes, and a tick that leaves it at brk_debounce or above leaves
an EXTERNAL break to be taken (R135, R136). -/
def sampleBreakLine (active : Bool) (s : State) : State :=
  let n := if active then bump255 s.sheet.debounce else 0
  s.onSheet fun m => { m with debounce := n, externalDue := decide (m.settings.brkDebounce ≤ n) }

/-- The traverse is PROBING and holding at probe_pos. -/
def Traverse.probeHolding : Traverse → Bool
  | .probing true => true
  | _ => false

/-- The MASS mean looks like sheet (R139). -/
def looksLikeSheet (threshold : Nat) (mean : Option Nat) : Bool :=
  match mean with
  | none => false
  | some m => decide (threshold ≤ m)

/-- The sheet-on run counter after the hand-over of a tick's MASS mean; a tick that brings it to sheet_on_ticks or above leaves a
sheet-on to be declared (R139). -/
def countSheetOn (mean : Option Nat) (s : State) : State :=
  let counts := s.sheet.state == .off && s.car.traverse.probeHolding &&
    looksLikeSheet s.sheet.settings.sheetOnThreshold mean && s.sheet.debounce == 0
  let n := if counts then bump255 s.sheet.onRun else 0
  s.onSheet fun m => { m with onRun := n, onDue := counts && decide (m.settings.sheetOnTicks ≤ n) }

/-! ## Per-scan conditions (R142 to R146) -/

/-- EDGE: an edge has moved in by more than edge_step bins since the previous edges record (R143). -/
def edgeMovedIn (step : Nat) (old : Option EdgesRecord) (tend drive : Nat) : Bool :=
  match old with
  | none => false
  | some o => decide (o.tend + step < tend) || decide (drive + step < o.drive)

/-- A bin is stale under a stale_scans (R99). -/
def FilterEntry.stale (staleScans : Nat) (e : FilterEntry) : Bool := decide (staleScans < e.age)

/-- A bin is wet: last updated now, not STALE, and its MOIST F above streak_limit (R144). -/
def FilterEntry.wet (staleScans limit : Nat) (e : FilterEntry) : Bool :=
  e.lastUpdate && !e.stale staleScans && decide ((limit : Int) < e.f)

/-- The runs of wet bins in order of first bin: `at` is the index of the next entry, `run` the run being read (R144). -/
def wetRuns (staleScans limit : Nat) : List FilterEntry → Nat → Option Streak → List Streak
  | [], _, none => []
  | [], _, some r => [r]
  | e :: es, i, run =>
    if e.wet staleScans limit then
      match run with
      | none => wetRuns staleScans limit es (i + 1) (some ⟨i, 1, e.f⟩)
      | some r => wetRuns staleScans limit es (i + 1) (some ⟨r.start, r.width + 1, max r.peak e.f⟩)
    else
      match run with
      | none => wetRuns staleScans limit es (i + 1) none
      | some r => r :: wetRuns staleScans limit es (i + 1) none

/-- The runs wide enough to be listed (R144). -/
def wideRuns (staleScans : Nat) (p : SheetSettings) (moist : List FilterEntry) : List Streak :=
  (wetRuns staleScans p.streakLimit moist 0 none).filter fun r => decide (p.streakMinWidth ≤ r.width)

/-- A value lies outside its limits (R146). -/
def outside (lo hi : Nat) (v : Int) : Bool := decide (v < (lo : Int)) || decide ((hi : Int) < v)

/-- The confirmation: UNKNOWN becomes ON at a COMPLETE close with edges found (R131). -/
def confirmSheet (s : State) : State :=
  if s.sheet.state = .unknown then (s.onSheet fun m => { m with state := .on }).raise .sheet else s

/-- The evaluation of the per-scan conditions from the new edges and the filtered table (R142). The four conditions are given together
and no rule orders their four entries: they are taken as EDGE, WET_STREAK, WEIGHT, MOISTURE, and the horn is judged after each, so this
order decides whether its wave begins anew (DESIGN CHOICE, log 37). -/
def evaluateSheet (tend drive : Nat) (s : State) : State :=
  let s := confirmSheet s
  let p := s.sheet.settings
  let edge := edgeMovedIn p.edgeStep s.prof.edges tend drive
  let runs := wideRuns s.prof.settings.staleScans p s.prof.table.moist
  let list := runs.take Config.streakMax
  let s := s.onSheet fun m => { m with streaks := list, more := decide (Config.streakMax < runs.length) }
  let s := giveCondition .edge edge s
  let s := giveCondition .wetStreak (!list.isEmpty) s
  let s := giveCondition .weight (outside p.massLo p.massHi s.prof.mdf.mass) s
  giveCondition .moisture (outside p.moistLo p.moistHi s.prof.mdf.moist) s

end Sys2Proof.Machine
end

