-- ==== Sys2Proof/Machine/Profile.lean ====
section
/-! DEFINITION. The profile engine: opening and closing a scan, edges and statistics, the filter update, the choice of a page, and
the clearing of the filtered table (04, 05, 10). -/

namespace Sys2Proof.Machine

open Sys2Proof

/-! ## Opening a scan -/

/-- A scan is opened: the scan record is made, the accumulators of its map are emptied, no bin is open (R64, R65, R66, R74). -/
def openScan (f : FrameRecord) (dir : Direction) (s : State) : State :=
  let sc : ScanRecord :=
    { number := s.prof.scanNumber, dir := dir, startTick := s.time.tick, calGen := s.eng.calGen, zeroGen := s.std.zeroGen,
      map := binMap f, settings := s.prof.settings, sampleLoss := false,
      results := List.replicate f.nbins BinResult.notReached }
  let s := s.onProf fun p => { p with openScan := some sc }
  s.onEng fun e => { e with accs := List.replicate f.nbins BinAcc.zero, openBin := none, binsDone := 0 }

/-! ## Edges -/

/-- A bin is an edge candidate: MASS VALID and at least edge_threshold (R77). -/
def BinResult.candidate (threshold : Nat) (r : BinResult) : Bool :=
  r.state.mass == .valid &&
    match r.value.mass with
    | none => false
    | some m => decide (threshold ≤ m)

/-- The indices of the entries that satisfy a test, in rising order, counted from `i`. -/
def indicesFrom {α : Type} (p : α → Bool) : List α → Nat → List Nat
  | [], _ => []
  | x :: xs, i => if p x then i :: indicesFrom p xs (i + 1) else indicesFrom p xs (i + 1)

/-- The sheet edges: lowest and highest candidate, when there is one (R77). -/
def findEdges (threshold : Nat) (bins : List BinResult) : Option (Nat × Nat) :=
  match indicesFrom (BinResult.candidate threshold) bins 0 with
  | [] => none
  | b :: bs => some (b, (b :: bs).getLastD b)

/-- A VALID or THIN state becomes OFF_SHEET, NOT_REACHED stays (R78). -/
def BinState.offEdge : BinState → BinState
  | .notReached => .notReached
  | _ => .offSheet

/-- A bin marked off the sheet: states only, everything measured is kept (R78). -/
def BinResult.markOff (r : BinResult) : BinResult :=
  { r with state := ⟨r.state.mass.offEdge, r.state.moist.offEdge, r.state.dry.offEdge, r.state.cal.offEdge⟩ }

/-- Bins below edge_tend or above edge_drive are marked off the sheet (R78). -/
def markOffSheet (edges : Option (Nat × Nat)) (bins : List BinResult) : List BinResult :=
  match edges with
  | none => bins
  | some (t, d) => bins.mapIdx fun i r => if i < t ∨ d < i then r.markOff else r

/-! ## Statistics -/

/-- The index lies in the qualifying range, edge margins kept (R79). -/
def inMargin (edges : Option (Nat × Nat)) (margin i : Nat) : Bool :=
  match edges with
  | none => false
  | some (t, d) => decide (t + margin ≤ i) && decide (i + margin ≤ d)

/-- A bin qualifies in a profile (R79). -/
def qualifies (edges : Option (Nat × Nat)) (margin : Nat) (p : Profile) (i : Nat) (r : BinResult) : Bool :=
  inMargin edges margin i && r.state.get p == .valid

/-- The value with which a bin enters the statistics of a profile: absent when it does not qualify (R79, R80). -/
def qualifyingValue (edges : Option (Nat × Nat)) (margin : Nat) (p : Profile) (i : Nat) (r : BinResult) : Option Nat :=
  if qualifies edges margin p i r then r.value.get p else none

/-- The values of the qualifying bins of a profile (R79). -/
def qualifyingValues (edges : Option (Nat × Nat)) (margin : Nat) (p : Profile) (bins : List BinResult) : List Nat :=
  (bins.mapIdx fun i r => qualifyingValue edges margin p i r).filterMap id

/-- The MD average: the mean of the qualifying values rounded half up (R80). -/
def mdAverage (vs : List Nat) : Option Nat := if vs.isEmpty then none else some (divHalfUp vs.sum vs.length)

/-- The spread: the largest deviation minus the smallest, which is the largest qualifying value minus the smallest (R81). -/
def spread : List Nat → Option Nat
  | [] => none
  | v :: vs => some (vs.foldl max v - vs.foldl min v)

/-- The deviation of a bin in a profile (R81). -/
def deviation (avg : Option Nat) (v : Option Nat) : Option Int :=
  match avg, v with
  | some a, some v => some ((v : Int) - (a : Int))
  | _, _ => none

/-- The bin results with their deviations filled in (R81). -/
def withDeviations (edges : Option (Nat × Nat)) (margin : Nat) (avg : Per4 (Option Nat)) (bins : List BinResult) :
    List BinResult :=
  bins.mapIdx fun i r =>
    { r with deviation := Per4.ofFn fun p => deviation (avg.get p) (qualifyingValue edges margin p i r) }

/-- The closed-scan table's content for a scan closed now, its open bin already closed (R76 to R83). -/
def closedScan (completion : Completion) (sc : ScanRecord) (binsDone : Nat) (endTick : Word) : ClosedScan :=
  let complete := completion == .complete
  let edges := if complete then findEdges sc.settings.edgeThreshold sc.results else none
  let margin := sc.settings.edgeMargin
  let bins := markOffSheet edges sc.results
  let values := fun p => qualifyingValues edges margin p bins
  let avg := Per4.ofFn fun p => mdAverage (values p)
  { number := sc.number, dir := sc.dir, startTick := sc.startTick, endTick := endTick, calGen := sc.calGen,
    zeroGen := sc.zeroGen, completion := completion, map := sc.map, binsDone := binsDone, edges := edges,
    mdAverage := avg, spread := Per4.ofFn fun p => spread (values p), sampleLoss := sc.sampleLoss,
    bins := withDeviations edges margin avg bins }

/-! ## The filter -/

/-- The filter step: e times k sixteenths, rounded to nearest with ties away from zero (R94, R95). -/
def filterStep (e : Int) (k : Nat) : Int := roundAway (e * (k : Int)) 16

/-- An entry of the filtered table after an update: a qualifying bin moves toward its deviation, any other ages (R94). -/
def FilterEntry.update (k : Nat) (dev : Option Int) (e : FilterEntry) : FilterEntry :=
  match dev with
  | some d => { f := e.f + filterStep (d - e.f) k, age := 0, lastUpdate := true }
  | none => { f := e.f, age := bump255 e.age, lastUpdate := false }

/-- One profile's entries after an update from the closed scan's bins (R94). -/
def updateEntries (k : Nat) (p : Profile) (bins : List BinResult) (es : List FilterEntry) : List FilterEntry :=
  es.mapIdx fun i e => e.update k ((bins[i]?).bind fun r => r.deviation.get p)

/-- A profile's MDF after an update (R95). -/
def updateMdf (kmd : Nat) (avg : Option Nat) (mdf : Int) : Int :=
  match avg with
  | none => mdf
  | some a => mdf + filterStep ((a : Int) - mdf) kmd

/-- The gain of a profile (R87). -/
def gainOf (p : ProfileSettings) : Profile → Nat
  | .mass => p.kMass
  | .moist => p.kMoist
  | .dry => p.kDry
  | .cal => p.kCal

/-- At least one bin qualified in at least one profile: some MD average exists (R80, R96). -/
def anyQualified (c : ClosedScan) : Bool :=
  c.mdAverage.mass.isSome || c.mdAverage.moist.isSome || c.mdAverage.dry.isSome || c.mdAverage.cal.isSome

/-- The filter update of a COMPLETE close with edges found, reseeding while the flag is set (R92 to R96, R172). -/
def filterUpdate (c : ClosedScan) (s : State) : State :=
  s.onProf fun p =>
    let gain := fun q => if p.reseed then 16 else gainOf p.settings q
    let kmd := if p.reseed then 16 else p.settings.kmd
    let reseeds := p.reseed && anyQualified c
    { p with
      table := Per4.ofFn fun q => updateEntries (gain q) q c.bins (p.table.get q)
      mdf := Per4.ofFn fun q => updateMdf kmd (c.mdAverage.get q) (p.mdf.get q)
      reseed := if reseeds then false else p.reseed
      filtersUpdated := true
      reseeded := reseeds
      sourceScan := c.number }

/-- An entry of a cleared filtered table (R105, R107). -/
def FilterEntry.cleared : FilterEntry := ⟨0, 255, false⟩

/-- The filtered table cleared to `n` entries per profile, MDF 0, source scan 0, reseed flag set (R105, R107, R172). -/
def clearFilters (n : Nat) (p : ProfileEngine) : ProfileEngine :=
  { p with
    table := Per4.ofFn fun _ => List.replicate n FilterEntry.cleared
    mdf := ⟨0, 0, 0, 0⟩
    sourceScan := 0
    reseed := true }

/-! ## Publication -/

/-- The publication copy taken for the choice of a page (R184). -/
def publicationCopy (c : ClosedScan) (s : State) : PublicationCopy :=
  let stale := s.prof.settings.staleScans
  { scan := c
    filtered := Per4.ofFn fun q => (s.prof.table.get q).map fun e => (e.f, e.stale stale)
    mdf := s.prof.mdf
    filtersUpdated := s.prof.filtersUpdated
    reseeded := s.prof.reseeded
    streaks := s.sheet.streaks
    more := s.sheet.more
    sheet := s.sheet.state }

/-- A page is free: its state word reads FREE, 0 (R181). -/
def pageFree (s : State) (page1 : Bool) : Bool := s.mem.readWord (pageWordIdx page1 0) == 0

/-- The page chosen, page 1 as true, from what the two state words read as and the page written last (R182). -/
def choosePage (free0 free1 lastWritten1 : Bool) : Option Bool :=
  match free0, free1 with
  | true, true => some (!lastWritten1)
  | true, false => some false
  | false, true => some true
  | false, false => none

/-- The scan goes unpublished (R183). -/
def unpublished (s : State) : State := giveCondition .publish true s

/-- The last step of a close with at least one bin: the copy is taken and the choice of a page begins, whose two reads wait for
their grants; or, with a publication in flight or a choice still under way, the scan goes unpublished (R182 to R184, log 8). -/
def startPublication (c : ClosedScan) (s : State) : State :=
  match s.prof.publication, s.prof.choice with
  | none, none =>
    let copy := publicationCopy c s
    s.onProf fun p => { p with choice := some ⟨copy, none⟩ }
  | _, _ => unpublished s

/-! ## Closing a scan -/

/-- The bins still unclosed at a COMPLETE close are closed as NOT_REACHED, each adding 1 (R76). -/
def closeRest (completion : Completion) (sc : ScanRecord) (s : State) : State :=
  match completion with
  | .complete => s.onEng fun e => { e with binsDone := e.binsDone + (sc.map.nbins - e.binsDone) }
  | .aborted _ => s

/-- The hand-offs of a close, the closed-scan table being replaced (R84, R91). -/
def handOff (c : ClosedScan) (s : State) : State :=
  let s := giveCondition .sampleLoss c.sampleLoss s
  let s :=
    match c.completion, c.edges with
    | .complete, some (t, d) =>
      let s := filterUpdate c s
      let s := evaluateSheet t d s
      s.onProf fun p => { p with edges := some ⟨t, d, c.number⟩ }
    | .complete, none =>
      takeBreakQuiet .noSheet (s.onProf fun p => { p with filtersUpdated := false, reseeded := false })
    | .aborted _, _ => s.onProf fun p => { p with filtersUpdated := false, reseeded := false }
  if c.binsDone = 0 then s else startPublication c s

/-- The open scan is closed with the given completion; with no scan open nothing is closed (R75 to R84). -/
def closeScan (completion : Completion) (s : State) : State :=
  match (closeOpenBin s).prof.openScan with
  | none => s
  | some sc =>
    let s := closeRest completion sc (closeOpenBin s)
    let c := closedScan completion sc s.eng.binsDone s.time.tick
    let s := s.onProf fun p => { p with openScan := none, closed := some c }
    handOff c s

end Sys2Proof.Machine
end

