-- ==== Sys2Proof/Machine/Motion.lean ====
section
/-! DEFINITION. The carriage controller: faults, move starts, arrivals, the turnaround, the park decision and the traverse start,
with the dwell that a turnaround enters and the carriages' answer to a break and to a sheet-on (01; R110 to R116, R123). -/

namespace Sys2Proof.Machine

open Sys2Proof

/-! ## The dwell and the STANDARDIZE card -/

/-- A STANDARDIZE card in flight is answered and leaves the standardization unit (R112, R113, R120, R123). -/
def answerStd (c : ResultCode) (value : Word) (s : State) : State :=
  match s.std.card with
  | none => s
  | some slot => answerEnded slot c value (s.onStd fun u => { u with card := none })

/-- The traverse enters PARKED, FAULTED or HALTED: a STANDARDIZE card that waits for a dwell ends DONE/ABANDONED; one held for
a dwell in progress stays (R113). At an entry to PARKED or HALTED it is answered before the card whose order ends there (DESIGN CHOICE,
log 35). -/
def abandonWaiting (s : State) : State :=
  match s.std.dwell with
  | none => answerStd .abandoned 0 s
  | some _ => s

/-- A dwell begins (R114). -/
def beginDwell (s : State) : State :=
  s.onStd fun u => { u with dwell := some ⟨u.settings.dwell, u.settings.min, 0, Acc.zero3⟩ }

/-- A dwell in progress is abandoned: its card ends DONE/ABANDONED, everything else of the unit is kept (R123). -/
def abandonDwell (s : State) : State :=
  match s.std.dwell with
  | none => s
  | some _ => answerStd .abandoned 0 (s.onStd fun u => { u with dwell := none })

/-- The standardization unit counts a traverse start and tests the count against the interval (R110). -/
def testDue (u : StdUnit) : StdUnit :=
  if u.settings.interval ≠ 0 ∧ u.settings.interval ≤ u.count then { u with due := true } else u

def countTraverse (s : State) : State := s.onStd fun u => testDue { u with count := bump255 u.count }

/-! ## Entering FAULTED -/

/-- The abort reason a fault cause gives (R28). -/
def FaultCause.abortReason : FaultCause → AbortReason
  | .alignment => .alignment
  | .travelLimit => .travel
  | .travelTimeout => .travel
  | .interlock => .travel
  | .driveNotReady => .travel

/-- The alarm kind a fault cause sets (R28). -/
def FaultCause.alarm : FaultCause → AlarmKind
  | .alignment => .alignment
  | .travelLimit => .travel
  | .travelTimeout => .travel
  | .interlock => .travel
  | .driveNotReady => .travel

/-- Entry to FAULTED: the move ends, an open scan is aborted, a dwell is abandoned, long orders are abandoned, the plans are
cleared. Already FAULTED, nothing changes (R12, R28). The order in which the cards it ends are answered is the model's: a dwell's
STANDARDIZE card, the carriage long order, a waiting STANDARDIZE card (DESIGN CHOICE, log 35). -/
def enterFaulted (cause : FaultCause) (s : State) : State :=
  if s.car.traverse = .faulted then s
  else
    let s := if s.car.traverse.isScanning then closeScan (.aborted cause.abortReason) s else s
    let s := if s.car.traverse.isStandardizing then abandonDwell s else s
    let s := s.onCar fun k =>
      { k with traverse := .faulted, cause := some cause, move := none, plan := .empty, nextPlan := none }
    let s := s.raise .traverse
    let s := answerLong .abandoned 0 s
    let s := abandonWaiting s
    giveCondition cause.alarm true s

/-! ## Move starts -/

/-- Position of a park under the frame record in force (R16, R22). -/
def parkPos (s : State) (side : Side) : Nat :=
  match s.car.frame, side with
  | none, _ => 0
  | some f, .tending => f.parkTend
  | some f, .drive => f.parkDrive

/-- The nearest park from the upper position; a tie goes to the tending side (R20). -/
def nearestPark (s : State) : Side :=
  let u := s.car.axis.upper.pos
  if distance u (parkPos s .drive) < distance u (parkPos s .tending) then .drive else .tending

/-- The skew is beyond skew_fault (R6, R10). -/
def skewBeyondFault (s : State) : Bool :=
  match s.car.frame with
  | none => false
  | some f => decide (f.skewFault < (skew s).natAbs)

/-- A limit of either carriage is asserted (R6). -/
def anyLimit (s : State) : Bool :=
  s.inputs.upper.limT || s.inputs.upper.limD || s.inputs.lower.limT || s.inputs.lower.limD

/-- LIM_T asserted on a carriage not zeroed at the start of the SEEK move (R14). -/
def seekLimit (s : State) : Bool :=
  (s.inputs.upper.limT && !s.inputs.upper.home) || (s.inputs.lower.limT && !s.inputs.lower.home)

/-- The checks of a move start in their order; the first failure decides (R6, R13, R14). -/
def startFault (p : Purpose) (s : State) : Option FaultCause :=
  if !s.frameOk then some .interlock
  else if !s.inputs.upper.drvOk || !s.inputs.lower.drvOk then some .driveNotReady
  else if p = .seek then (if seekLimit s then some .travelLimit else none)
  else if anyLimit s then some .travelLimit
  else if skewBeyondFault s then some .alignment
  else none

/-- The direction of a move from the upper position: a target equal to it is taken as FORWARD (R6). -/
def directionTo (upper target : Nat) : Direction := if target < upper then .reverse else .forward

/-- A position lies at or past a target in a direction (R6, R7). -/
def atOrPast (dir : Direction) (pos target : Nat) : Bool :=
  match dir with
  | .forward => decide (target ≤ pos)
  | .reverse => decide (pos ≤ target)

/-- The move record of a start that passed: carriages already at or past the target have arrived (R6). -/
def newMove (p : Purpose) (target : Nat) (dir : Direction) (s : State) : Move :=
  { purpose := p, target := target, dir := dir,
    arrived := ⟨atOrPast dir s.car.axis.upper.pos target, atOrPast dir s.car.axis.lower.pos target⟩,
    held := .both false, timer := 0 }

/-- A move starts in a given direction, or its failed start faults the traverse with no move in progress (R6). -/
def startMoveIn (p : Purpose) (target : Nat) (dir : Direction) (s : State) : State :=
  match startFault p s with
  | some c => enterFaulted c (s.onCar fun k => { k with move := none })
  | none => s.onCar fun k => { k with move := some (newMove p target dir s) }

/-- A move starts in the direction its target gives (R6). -/
def startMove (p : Purpose) (target : Nat) (s : State) : State :=
  startMoveIn p target (directionTo s.car.axis.upper.pos target) s

/-- A carriage zeroed at its home switch: count and edge accumulator 0 (R3, R14). -/
def zeroAxis (b : Beam) (s : State) : State := s.onCar fun k => { k with axis := k.axis.set b ⟨0, 0⟩ }

/-- A carriage whose HOME input is active is zeroed at the start of the SEEK move (R14). -/
def zeroIfHome (b : Beam) (s : State) : State := if (s.inputs.get b).home then zeroAxis b s else s

/-- The SEEK move starts: a carriage whose HOME input is active is zeroed and has arrived (R13, R14). -/
def startSeek (s : State) : State :=
  match startFault .seek s with
  | some c => enterFaulted c (s.onCar fun k => { k with move := none })
  | none =>
    let m : Move :=
      { purpose := .seek, target := 0, dir := .reverse, arrived := ⟨s.inputs.upper.home, s.inputs.lower.home⟩,
        held := .both false, timer := 0 }
    let s := zeroIfHome .upper (zeroIfHome .lower s)
    s.onCar fun k => { k with move := some m }

/-- A PARK move toward the nearest park, the traverse POSITIONING(PARK) (R20, R22). -/
def startPark (s : State) : State :=
  let side := nearestPark s
  startMove (.park side) (parkPos s side) (s.onCar fun k => { k with traverse := .positioning .park })

/-! ## Entering PARKED and HALTED -/

/-- Entry to PARKED; a traverse already PARKED at the same side makes no entry and raises nothing (R11, R113). -/
def enterParked (side : Side) (s : State) : State :=
  if s.car.traverse = .parked side then s
  else abandonWaiting ((s.onCar fun k => { k with traverse := .parked side }).raise .traverse)

/-- Entry to HALTED (R11, R113). -/
def enterHalted (s : State) : State :=
  abandonWaiting ((s.onCar fun k => { k with traverse := .halted }).raise .traverse)

/-! ## Traverse start -/

/-- The other side. -/
def Side.other : Side → Side
  | .tending => .drive
  | .drive => .tending

/-- The direction of a traverse that leaves a side (R16). -/
def Side.leaving : Side → Direction
  | .tending => .forward
  | .drive => .reverse

/-- A plan after one more traverse start (R16). -/
def Plan.countDown : Plan → Plan
  | .empty => .empty
  | .continuous => .continuous
  | .remaining n => .remaining (n - 1)

/-- SET_CAL's values applied to a channel: the zero is left, the cal generation rises (R49). -/
def applyCal (c : Channel) (v : CalValues) (e : Engine) : Engine :=
  { e with
    cal := e.cal.set c { (e.cal.get c) with values := v }
    nextCal := e.nextCal.set c none
    calGen := e.calGen + 1 }

/-- A present pending entry of a channel is applied at a traverse start (R50). -/
def applyPendingCal (c : Channel) (e : Engine) : Engine :=
  match e.nextCal.get c with
  | none => e
  | some v => applyCal c v e

/-- A pending profile record becomes the settings in force (R89). -/
def applyPendingProfile (p : ProfileEngine) : ProfileEngine :=
  match p.nextSettings with
  | none => p
  | some v => { p with settings := v, nextSettings := none }

/-- A traverse start from a park (R16): the checks first; if they pass, the scan number rises, the plan is counted, the traverse
is SCANNING, the standardization unit counts, pending settings are applied (R50, R89) and the scan is opened (R74). -/
def traverseStart (side : Side) (s : State) : State :=
  let purpose := Purpose.traverse side.other
  match startFault purpose s with
  | some c => enterFaulted c (s.onCar fun k => { k with move := none })
  | none =>
    let m := newMove purpose (parkPos s side.other) side.leaving s
    let s := s.onProf fun p => { p with scanNumber := p.scanNumber + 1 }
    let s := s.onCar fun k =>
      { k with plan := k.plan.countDown, traverse := .scanning side.leaving, move := some m }
    let s := countTraverse s
    let s := s.onEng fun e => applyPendingCal .cal (applyPendingCal .water (applyPendingCal .mass e))
    let s := s.onProf applyPendingProfile
    match s.car.frame with
    | none => s
    | some f => openScan f side.leaving s

/-! ## Park decision and turnaround -/

/-- A STOP END or STOP NOW is in flight (R18, R19, R21). -/
def stopInFlight (k : CarriageController) : Bool :=
  match k.underWay with
  | none => false
  | some l => l.kind == .stopEnd || l.kind == .stopNow

/-- The plan calls for a traverse (R18). -/
def Plan.goesOn : Plan → Bool
  | .empty => false
  | .continuous => true
  | .remaining n => decide (0 < n)

/-- A pending plan replaces the plan in force (R18). -/
def takeNextPlan (k : CarriageController) : CarriageController :=
  match k.nextPlan with
  | none => k
  | some p => { k with plan := p, nextPlan := none }

/-- The plan in force is cleared. -/
def clearPlan (s : State) : State := s.onCar fun k => { k with plan := .empty }

/-- The park decision at a side (R18). -/
def parkDecision (side : Side) (s : State) : State :=
  let s := s.onCar takeNextPlan
  if stopInFlight s.car then answerLong .ok 0 (enterParked side (clearPlan s))
  else if s.sheet.state = .off then
    if s.sheet.settings.resumeMode = 0 then
      match s.car.frame with
      | none => s
      | some f => startMove .probe f.probePos (s.onCar fun k => { k with traverse := .probing false })
    else enterParked side s
  else if s.car.plan.goesOn then traverseStart side s
  else enterParked side (clearPlan s)

/-- The turnaround at the far park: the scan is closed COMPLETE, the breaks that are due are taken without a request (R138; log 44), a
due dwell is entered, or the park decision is taken, which finds the sheet as the breaks left it (R17). -/
def turnaround (side : Side) (s : State) : State :=
  let s := takeDueBreaks (closeScan .complete s)
  if s.std.due then beginDwell (s.onCar fun k => { k with traverse := .standardizing side })
  else parkDecision side s

/-- What follows the end of a move of each purpose (R7, R14, R20). The move has left the record. -/
def afterMove (p : Purpose) (target : Nat) (s : State) : State :=
  match p with
  | .seek =>
    let s := s.onCar fun k => { k with valid := true, traverse := .homing .parkHome }
    startMove .parkHome (parkPos s .tending) s
  | .parkHome =>
    let s := enterParked .tending (s.onCar fun k => { k with cause := none })
    let s := giveCondition .alignment false s
    let s := giveCondition .travel false s
    answerLong .ok 0 s
  | .traverse side => turnaround side s
  | .point =>
    let s := s.onCar fun k => { k with traverse := .singlePoint target }
    answerLong .ok (BitVec.ofNat 32 s.car.axis.upper.pos) s
  | .park side => answerLong .ok 0 (enterParked side s)
  | .breakReturn side => parkDecision side s
  | .probe => s.onCar fun k => { k with traverse := .probing true }
  | .returning side => parkDecision side s

/-- Both carriages have arrived: the move in progress ends (R7). -/
def Move.over (m : Move) : Bool := m.arrived.upper && m.arrived.lower

/-- Moves that both carriages have ended are followed by what their purpose decides, as often as a move ends at its own start.
The fuel bounds the chain: no park can be reached twice without a position event (log 14). -/
def settleMoves : Nat → State → State
  | 0, s => s
  | n + 1, s =>
    match s.car.move with
    | none => s
    | some m => if m.over then settleMoves n (afterMove m.purpose m.target (s.onCar fun k => { k with move := none })) else s

/-- The fuel of `settleMoves`. -/
def moveChain : Nat := 8

/-- The ends of moves that an event brings about. -/
def settle (s : State) : State := settleMoves moveChain s

/-! ## Breaks and sheet-on at the carriages -/

/-- The carriage controller's answer to a break request (R23). -/
def breakRequest (s : State) : State :=
  let s := if stopInFlight s.car then s else answerLong .abandoned 0 s
  let s := if s.car.traverse.isScanning then closeScan (.aborted .brk) s else s
  let side := nearestPark s
  settle (startMove (.breakReturn side) (parkPos s side) (s.onCar fun k => { k with traverse := .breakPark side }))

/-- A break is taken; in SCANNING and SINGLE_POINT it makes a break request, the change to OFF and the request being one event.
A break taken while the sheet is OFF changes nothing (R129, R130). -/
def takeBreak (src : BreakSource) (s : State) : State :=
  if s.sheet.state = .off then s
  else
    let s := breakEffects src s
    if s.car.traverse.watchesSheet then breakRequest s else s

/-- Sheet-on reported to the carriage controller (R24). -/
def reportSheetOn (s : State) : State :=
  match s.car.traverse with
  | .probing _ =>
    let side := nearestPark s
    settle (startMove (.returning side) (parkPos s side) (s.onCar fun k => { k with traverse := .positioning .returning }))
  | .parked side => settle (parkDecision side s)
  | _ => s

/-- Sheet-on, by probing or by RESUME (R141). -/
def declareSheetOn (s : State) : State := reportSheetOn (sheetOnEffects s)

/-! ## Position events -/

/-- The leading carriage of a move with a given skew (R9). -/
def leading (dir : Direction) (skew : Int) : Beam :=
  match dir with
  | .forward => if 0 < skew then .upper else .lower
  | .reverse => if skew < 0 then .upper else .lower

/-- A held carriage is released: its hold ends (R9). -/
def releaseHolds (s : State) : State :=
  s.onCar fun k => { k with move := k.move.map fun m => { m with held := .both false } }

/-- A held carriage that has not arrived has its DRV_OK low as the hold releases it (R27). -/
def releaseFails (m : Move) (s : State) (b : Beam) : Bool :=
  m.held.get b && !m.arrived.get b && !(s.inputs.get b).drvOk

/-- The skew hold at a position event of a move in progress: hold beyond skew_hold, release at half of it (R9, R27). -/
def skewHold (s : State) : State :=
  match s.car.move, s.car.frame with
  | some m, some f =>
    let k := (skew s).natAbs
    if f.skewHold < k then
      let b := leading m.dir (skew s)
      if m.arrived.get b then s
      else s.onCar fun c => { c with move := some { m with held := m.held.set b true } }
    else if k ≤ f.skewHold / 2 then
      if releaseFails m s .upper || releaseFails m s .lower then enterFaulted .driveNotReady s else releaseHolds s
    else s
  | _, _ => s

/-- A carriage arrives when its count stands at or past the target of a move other than SEEK; its hold ends with it (R7, R9). -/
def arrive (b : Beam) (s : State) : State :=
  match s.car.move with
  | none => s
  | some m =>
    if m.purpose ≠ .seek ∧ !m.arrived.get b ∧ atOrPast m.dir (s.car.axis.get b).pos m.target then
      s.onCar fun c => { c with move := some { m with arrived := m.arrived.set b true, held := m.held.set b false } }
    else s

/-- The move in progress has both carriages arrived. -/
def moveOver (s : State) : Bool :=
  match s.car.move with
  | none => false
  | some m => m.over

/-- The alignment check is made in this traverse state (R10). -/
def Traverse.checksSkew : Traverse → Bool
  | .halted => false
  | .faulted => false
  | _ => true

/-- A position event of a carriage (R10): the alignment check first, then arrival with all that it brings about, then the hold of
the move that is in progress then, a move that the arrival has started included (log 29). -/
def positionEvent (b : Beam) (s : State) : State :=
  if s.car.valid && s.car.traverse.checksSkew then
    if skewBeyondFault s then enterFaulted .alignment s
    else
      let s := arrive b s
      skewHold (if moveOver s then settle s else s)
  else s

/-- A carriage's axis after one quadrature edge under a prescaler (R3). -/
def Axis.edge (a : Axis) (prescaler : Nat) (d : Direction) : Axis :=
  let e := match d with
    | .forward => a.edges + 1
    | .reverse => a.edges - 1
  if (prescaler : Int) ≤ e then ⟨if a.pos < 65535 then a.pos + 1 else a.pos, 0⟩
  else if e ≤ -(prescaler : Int) then ⟨a.pos - 1, 0⟩
  else ⟨a.pos, e⟩

end Sys2Proof.Machine
end

