-- ==== Sys2Proof/Machine/Standardize.lean ====
section
/-! DEFINITION. The end of a dwell: averages, checks, the change of zeros and the hand-offs (R116 to R122). -/

namespace Sys2Proof.Machine

open Sys2Proof

/-- The dwell's end is due: its tick count has reached std_dwell (R116). -/
def dwellEnds (s : State) : Bool :=
  match s.std.dwell with
  | none => false
  | some d => decide (d.stdDwell ≤ d.ticks)

/-- The outcome of a channel from its accumulator under the calibration record in force (R117, R118). -/
def checkChannel (stdMin : Nat) (c : CalRecord) (a : Acc) : StdOutcome :=
  match a.mean with
  | none => .failFew
  | some avg =>
    if a.count < stdMin then .failFew
    else if c.values.driftLimit < distance avg c.values.refZero then .failDrift
    else if c.values.stepLimit < distance avg c.zero then .failStep
    else .pass

/-- The calibration record after the change of R119: a channel that passed takes its average as zero. -/
def newZero (o : StdOutcome) (a : Acc) (c : CalRecord) : CalRecord :=
  match o, a.mean with
  | .pass, some avg => { c with zero := avg }
  | _, _ => c

/-- At least one channel passed. -/
def anyPass (o : Per3 StdOutcome) : Bool := o.mass == .pass || o.water == .pass || o.cal == .pass

/-- All three channels passed. -/
def allPass (o : Per3 StdOutcome) : Bool := o.mass == .pass && o.water == .pass && o.cal == .pass

/-- The code of an outcome (R121). -/
def StdOutcome.code : StdOutcome → Nat
  | .none => 0
  | .pass => 1
  | .failFew => 2
  | .failDrift => 3
  | .failStep => 4

/-- The 12-bit outcome field (R121). -/
def outcomeField (o : Per3 StdOutcome) : Nat := o.mass.code + 16 * o.water.code + 256 * o.cal.code

/-- The outcomes of a dwell's three channels (R118). -/
def dwellOutcomes (d : Dwell) (e : Engine) : Per3 StdOutcome :=
  ⟨checkChannel d.stdMin e.cal.mass d.acc.mass, checkChannel d.stdMin e.cal.water d.acc.water,
    checkChannel d.stdMin e.cal.cal d.acc.cal⟩

/-- The change of R119, made as one: zeros, zero generation, outcomes, due flag and traverse count; the dwell is over. -/
def writeZeros (d : Dwell) (o : Per3 StdOutcome) (s : State) : State :=
  let s := s.onEng fun e =>
    { e with
      cal := ⟨newZero o.mass d.acc.mass e.cal.mass, newZero o.water d.acc.water e.cal.water,
        newZero o.cal d.acc.cal e.cal.cal⟩ }
  s.onStd fun u =>
    { u with
      dwell := none
      zeroGen := if anyPass o then u.zeroGen + 1 else u.zeroGen
      outcomes := o
      due := false
      count := 0 }

/-- The side at which the traverse stands or to which it goes, where its state has one (R11). -/
def Traverse.side : Traverse → Side
  | .parked side => side
  | .standardizing side => side
  | .breakPark side => side
  | _ => .tending

/-- The hand-offs of a completed dwell: condition, notice, card, park decision (R120). -/
def dwellHandOff (o : Per3 StdOutcome) (s : State) : State :=
  let s := giveCondition .standardize (!allPass o) s
  let s := s.raise .std
  let s := answerStd .ok (BitVec.ofNat 32 (outcomeField o)) s
  settle (parkDecision s.car.traverse.side s)

/-- The end of a dwell whose end is due (R116 to R120). -/
def endDwell (s : State) : State :=
  match s.std.dwell with
  | none => s
  | some d =>
    let o := dwellOutcomes d s.eng
    if d.stdDwell ≤ d.ticks then dwellHandOff o (writeZeros d o s) else s

end Sys2Proof.Machine
end

