-- ==== Sys2Proof/Machine/Exports.lean ====
section
/-! DEFINITION. The export link: the copy, the cycle start, and the 48-bit frames (09). -/

namespace Sys2Proof.Machine

open Sys2Proof

/-- The profiles in their fixed order (R174). -/
def allProfiles : List Profile := [.mass, .moist, .dry, .cal]

/-- The number of a profile: its id in export frames and its bit in a SET_EXPORT mask (R169, 09 Frames). -/
def profileId : Profile → Nat
  | .mass => 0
  | .moist => 1
  | .dry => 2
  | .cal => 3

/-- A bin lies outside the edges of the edges record (R171). -/
def offEdges (e : Option EdgesRecord) (i : Nat) : Bool :=
  match e with
  | none => false
  | some e => decide (i < e.tend) || decide (e.drive < i)

/-- The block of a profile in the export copy (R171). -/
def exportBlock (p : ProfileEngine) (q : Profile) : ExportBlock :=
  { profile := q
    mdf := p.mdf.get q
    bins := (p.table.get q).mapIdx fun i e =>
      ⟨e.f, e.lastUpdate, e.stale p.settings.staleScans, offEdges p.edges i⟩ }

/-- The export copy taken at a cycle start (R171, R172). -/
def exportCopy (f : FrameRecord) (profiles : Per4 Bool) (s : State) : ExportCopy :=
  { blocks := (allProfiles.filter fun q => profiles.get q).map (exportBlock s.prof)
    nbins := f.nbins
    sheet := s.sheet.state
    source := s.prof.sourceScan }

/-- A pending export setting becomes the setting in force (R170). -/
def takeNextExport (e : ExportLink) : ExportLink :=
  match e.next with
  | none => e
  | some v => { e with settings := v, next := none }

/-- A cycle start (R170). -/
def cycleStart (s : State) : State :=
  let s := s.onExp takeNextExport
  match s.exp.settings.enable, s.car.frame with
  | true, some f =>
    let copy := exportCopy f s.exp.settings.profiles s
    s.onExp fun e => { e with cycle := e.cycle + 1, sending := some ⟨some copy, 0, 0, none⟩ }
  | _, _ => s.onExp fun e => { e with sending := none }

/-- A service tick takes a cycle start while the link is idle (R170). -/
def tickExport (s : State) : State :=
  match s.exp.sending with
  | none => cycleStart s
  | some _ => s

/-! ## Frames -/

/-- The code of a sheet state (R128). -/
def SheetState.code : SheetState → Nat
  | .unknown => 0
  | .on => 1
  | .off => 2

/-- The header frame of a profile (R175). -/
def headerFrame (cycle : Half) (c : ExportCopy) (q : Profile) : BitVec 48 :=
  0b01#2 ++ BitVec.ofNat 2 (profileId q) ++ cycle ++ lowHalf c.source ++ BitVec.ofNat 2 c.sheet.code ++ 0#1 ++
    BitVec.ofNat 9 c.nbins

/-- The MD frame of a profile (R175). -/
def mdFrame (b : ExportBlock) : BitVec 48 := 0b11#2 ++ BitVec.ofNat 2 (profileId b.profile) ++ BitVec.ofInt 16 b.mdf ++ 0#28

/-- A bin frame: F saturated, and the bin's flags (R176). -/
def binFrame (q : Profile) (i : Nat) (b : ExportBin) : BitVec 48 :=
  0b10#2 ++ BitVec.ofNat 2 (profileId q) ++ BitVec.ofNat 9 i ++ BitVec.ofInt 16 (saturate16 b.f) ++ BitVec.ofBool b.valid ++
    BitVec.ofBool b.stale ++ BitVec.ofBool b.offSheet ++ 0#16

/-- A bin that no entry of a block lists; no cycle sends one, since a block holds nbins entries (R171). -/
def ExportBin.none : ExportBin := ⟨0, false, false, false⟩

/-- Frame `n` of a block: the header, the MD frame, then the bin frames in rising index (R174). -/
def blockFrame (cycle : Half) (c : ExportCopy) (b : ExportBlock) (n : Nat) : BitVec 48 :=
  if n = 0 then headerFrame cycle c b.profile
  else if n = 1 then mdFrame b
  else binFrame b.profile (n - 2) (b.bins.getD (n - 2) ExportBin.none)

/-- The next frame begins to be sent: one is due while the link sends, no frame is in progress and the cycle is not cut
(R168, R174). -/
def frameStart (s : State) : State :=
  match s.exp.sending with
  | some ⟨some c, block, frame, none⟩ =>
    match c.blocks[block]? with
    | none => s
    | some b =>
      s.onExp fun e => { e with sending := some ⟨some c, block, frame, some (blockFrame e.cycle c b frame)⟩ }
  | _ => s

/-- The frame in progress ends: the next frame follows after the gap, or the cycle ends, which is a cycle start; a cycle cut by
a soft reset ends with this frame (R170, R174, R179). -/
def frameEnd (s : State) : State :=
  match s.exp.sending with
  | some ⟨some c, block, frame, some _⟩ =>
    if frame + 1 < c.nbins + 2 then s.onExp fun e => { e with sending := some ⟨some c, block, frame + 1, none⟩ }
    else if block + 1 < c.blocks.length then s.onExp fun e => { e with sending := some ⟨some c, block + 1, 0, none⟩ }
    else cycleStart s
  | some ⟨none, _, _, some _⟩ => cycleStart s
  | _ => s

/-- The export link's soft reset: a frame in progress is sent to its end, a cycle with no frame in progress is ended at once, an
idle link stays idle (R179). -/
def softResetExport (s : State) : State :=
  let s := s.onExp fun e => { e with next := none }
  match s.exp.sending with
  | none => s
  | some ⟨_, block, frame, some w⟩ => s.onExp fun e => { e with sending := some ⟨none, block, frame, some w⟩ }
  | some ⟨_, _, _, none⟩ => cycleStart s

/-- The levels of XCLK and XDAT in one half of one bit time of a frame, bit 0 the first sent: the most significant bit goes
first, XCLK is low in the first half and high in the second (R168). -/
def exportWire (w : BitVec 48) (n : Fin 48) (secondHalf : Bool) : Bool × Bool := (secondHalf, w.getMsbD n)

/-- The levels of XCLK and XDAT of the part: those of the frame while one is being sent, in the given half of the given bit time,
and low in the gap between two frames, between two cycles, while the link is idle and after a pin reset (R168, R180; log 18). -/
def exportLines (s : State) (n : Fin 48) (secondHalf : Bool) : Bool × Bool :=
  match s.exp.sending with
  | none => (false, false)
  | some d =>
    match d.wire with
    | none => (false, false)
    | some w => exportWire w n secondHalf

end Sys2Proof.Machine
end

