-- ==== Sys2Proof/Machine/Guard.lean ====
section
/-! DEFINITION. The access guard: the decision on a port access and the fault record (R202 to R204). -/

namespace Sys2Proof.Machine

open Sys2Proof

/-- A permission set grants a port and a kind. -/
def Permissions.grants (p : Permissions) : Port → AccessKind → Bool
  | .a, .read => p.aRead
  | .a, .write => p.aWrite
  | .b, .read => p.bRead
  | .b, .write => p.bWrite

/-- An enabled range covers an address from its start to its end, both included (R202). -/
def GuardRange.covers (r : GuardRange) (addr : Nat) : Bool :=
  r.enabled && decide (r.start ≤ addr) && decide (addr ≤ r.last)

/-- The decision of the guard on a port access (R202). -/
def permits (g : AccessGuard) (port : Port) (kind : AccessKind) (addr : Nat) : Bool :=
  let covering := g.ranges.toList.filter fun r => r.covers addr
  if covering.isEmpty then !g.deny else covering.any fun r => r.perms.grants port kind

/-- A denied access is reported: it latches an empty record, raising GUARD and giving ACCESS present, or sets MULTIPLE in a
latched one (R204). -/
def reportDenial (port : Port) (kind : AccessKind) (addr : Half) (s : State) : State :=
  match s.guard.fault with
  | none =>
    let s := s.onGuard fun g => { g with fault := some ⟨port, kind, addr, false⟩ }
    giveCondition .access true (s.raise .guard)
  | some r => s.onGuard fun g => { g with fault := some { r with multiple := true } }

end Sys2Proof.Machine
end

