-- ==== Sys2Proof/Machine/Pages.lean ====
section
/-! DEFINITION. What software reads: the words of a scan page (10), the words of the status block (11), the register window. -/

namespace Sys2Proof.Machine

open Sys2Proof

/-! ## Scan page -/

/-- The code of a completion (10, word 2). -/
def Completion.code : Completion → Nat
  | .complete => 1
  | .aborted _ => 2

/-- The code of an abort reason, 0 for a COMPLETE scan (10, word 2). -/
def Completion.reasonCode : Completion → Nat
  | .complete => 0
  | .aborted .stop => 1
  | .aborted .brk => 2
  | .aborted .alignment => 3
  | .aborted .travel => 4

/-- The code of a bin state (10, w4). -/
def BinState.code : BinState → Nat
  | .notReached => 0
  | .valid => 1
  | .thin => 2
  | .offSheet => 3

/-- A value or 0 when absent (R187, R188). -/
def orZero (v : Option Nat) : Nat := v.getD 0

/-- Word 2 of the header. -/
def pageWord2 (c : PublicationCopy) : Word :=
  BitVec.ofNat 32 (c.scan.completion.code + 4 * c.scan.completion.reasonCode + bit (c.scan.dir == .reverse) 8 +
    65536 * c.sheet.code)

/-- Word 5 of the header: the edges and the edges-found bit (R187). -/
def pageWord5 (c : PublicationCopy) : Word :=
  match c.scan.edges with
  | none => 0
  | some (t, d) => BitVec.ofNat 32 (t % 512 + 65536 * (d % 512) + bit true 31)

/-- Word 15 of the header: streak count, MORE, MD_PRESENT, SAMPLE_LOSS, RESEEDED, FILTERS_UPDATED. MD_PRESENT stands at bit 8 for
MASS, 9 for MOIST, 10 for DRY and 11 for CAL (DESIGN CHOICE, log 38). -/
def pageWord15 (c : PublicationCopy) : Word :=
  BitVec.ofNat 32 (c.streaks.length % 16 + bit c.more 4 + bit c.scan.mdAverage.mass.isSome 8 +
    bit c.scan.mdAverage.moist.isSome 9 + bit c.scan.mdAverage.dry.isSome 10 + bit c.scan.mdAverage.cal.isSome 11 +
    bit c.scan.sampleLoss 12 + bit c.reseeded 13 + bit c.filtersUpdated 14)

/-- Word `16 + n`: streak entry `n / 2`, its start and width or its peak; unused entries are 0 (R187). -/
def streakWord (c : PublicationCopy) (n : Nat) : Word :=
  match c.streaks[n / 2]? with
  | none => 0
  | some r => if n % 2 = 0 then packHalves r.start r.width else packHalves r.peak.toNat 0

/-- Word `n` of the header, 1 to 31 (R187). -/
def headerWord (c : PublicationCopy) (n : Nat) : Word :=
  let sc := c.scan
  match n with
  | 1 => sc.number
  | 2 => pageWord2 c
  | 3 => packHalves sc.map.nbins sc.binsDone
  | 4 => packHalves sc.map.bin0Pos sc.map.binW
  | 5 => pageWord5 c
  | 6 => joinHalves sc.calGen sc.zeroGen
  | 7 => sc.startTick
  | 8 => sc.endTick
  | 9 => packHalves (orZero sc.mdAverage.mass) (orZero sc.mdAverage.moist)
  | 10 => packHalves (orZero sc.mdAverage.dry) (orZero sc.mdAverage.cal)
  | 11 => packHalves c.mdf.mass.toNat c.mdf.moist.toNat
  | 12 => packHalves c.mdf.dry.toNat c.mdf.cal.toNat
  | 13 => packHalves (orZero sc.spread.mass) (orZero sc.spread.moist)
  | 14 => packHalves (orZero sc.spread.dry) (orZero sc.spread.cal)
  | 15 => pageWord15 c
  | n => streakWord c (n - 16)

/-- The 16 signed bits of a filtered value, saturated (R188). -/
def fHalf (v : Int × Bool) : Half := BitVec.ofInt 16 (saturate16 v.1)

/-- The filtered value and STALE flag of a bin in a profile of the copy. -/
def copyF (c : PublicationCopy) (q : Profile) (b : Nat) : Int × Bool := (c.filtered.get q).getD b (0, false)

/-- The 4-bit state field of a profile in w4. -/
def stateField (st : BinState) (stale zb : Bool) : Nat := st.code + bit stale 2 + bit zb 3

/-- Word w4 of a bin record (R188). -/
def binWord4 (c : PublicationCopy) (r : BinResult) (b : Nat) : Word :=
  BitVec.ofNat 32
    (stateField r.state.mass (copyF c .mass b).2 false + 16 * stateField r.state.moist (copyF c .moist b).2 r.zeroBase +
      256 * stateField r.state.dry (copyF c .dry b).2 false + 4096 * stateField r.state.cal (copyF c .cal b).2 false +
      65536 * (r.count.mass % 4096) + bit r.gap 28 + bit r.capped 29)

/-- Word `k` of the bin record of bin `b` (R188). -/
def binWord (c : PublicationCopy) (r : BinResult) (b k : Nat) : Word :=
  match k with
  | 0 => packHalves (orZero r.value.mass) (orZero r.value.moist)
  | 1 => packHalves (orZero r.value.dry) (orZero r.value.cal)
  | 2 => joinHalves (fHalf (copyF c .mass b)) (fHalf (copyF c .moist b))
  | 3 => joinHalves (fHalf (copyF c .dry b)) (fHalf (copyF c .cal b))
  | _ => binWord4 c r b

/-- Word `n` of a page, 1 to 2431: header, bin records, then zeros (R185). -/
def pageWord (c : PublicationCopy) (n : Nat) : Word :=
  if n < 32 then headerWord c n
  else
    match c.scan.bins[(n - 32) / 5]? with
    | none => 0
    | some r => binWord c r ((n - 32) / 5) ((n - 32) % 5)

/-! ## Status block -/

/-- The traverse state code of status word 1. -/
def Traverse.code : Traverse → Nat
  | .halted => 0
  | .homing _ => 1
  | .parked _ => 2
  | .standardizing _ => 3
  | .scanning _ => 4
  | .positioning _ => 5
  | .singlePoint _ => 6
  | .breakPark _ => 7
  | .probing _ => 8
  | .faulted => 9

/-- The code of a side. -/
def Side.code : Side → Nat
  | .tending => 0
  | .drive => 1

/-- The parameter code of status word 1. -/
def Traverse.param : Traverse → Nat
  | .parked side => side.code
  | .standardizing side => side.code
  | .breakPark side => side.code
  | .scanning .forward => 0
  | .scanning .reverse => 1
  | .homing .seek => 0
  | .homing .parkHome => 1
  | .positioning .point => 0
  | .positioning .park => 1
  | .positioning .returning => 2
  | .probing false => 0
  | .probing true => 1
  | .halted => 0
  | .singlePoint _ => 0
  | .faulted => 0

/-- The fault cause code of status word 1. -/
def causeCode : Option FaultCause → Nat
  | none => 0
  | some .travelLimit => 1
  | some .travelTimeout => 2
  | some .alignment => 3
  | some .interlock => 4
  | some .driveNotReady => 5

/-- The direction code of status word 1. -/
def directionCode : Option Direction → Nat
  | none => 0
  | some .forward => 1
  | some .reverse => 2

def BreakSource.code : BreakSource → Nat
  | .none => 0
  | .sample => 1
  | .external => 2
  | .noSheet => 3

def LinkError.code : LinkError → Nat
  | .none => 0
  | .check => 1
  | .sequence => 2
  | .overrun => 3

def AlarmState.code : AlarmState → Nat
  | .normal => 0
  | .holdoff => 1
  | .activeUnacked => 2
  | .activeAcked => 3
  | .returnedUnacked => 4

def LampPattern.code : LampPattern → Nat
  | .off => 0
  | .steady => 1
  | .flashing => 2

/-- Status word 1 (11). -/
def statusWord1 (c : CarriageController) : Word :=
  BitVec.ofNat 32 (c.traverse.code + 16 * c.traverse.param + 256 * causeCode c.cause +
    4096 * directionCode (moveDirection c) + bit c.valid 15)

/-- The half of status word 11 for one link (R38). -/
def linkHalf (r : Receiver) : Nat := r.bad % 256 + 256 * r.lastError.code

/-- The status word of an alarm kind, with the annunciator state every word repeats (R165). -/
def alarmWord (a : AlarmUnit) (e : AlarmEntry) : Word :=
  BitVec.ofNat 32 (e.state.code + bit e.condition 3 + bit e.enabled 4 + bit e.major 5 + bit e.latching 6 +
    1024 * (lampPattern a).code + bit (hornSounds a) 12 + bit a.silence 13 + 16384 * (a.tone % 4) +
    65536 * (e.holdoff % 256) + 16777216 * (e.remaining % 256))

/-- The present flags of status word 26 (R62). That MASS is bit 0 and DRY bit 4 is the model's choice (DESIGN CHOICE, log 38): the manual
lists the five channels beside 'bits 4-0'. -/
def pointFlags (p : PointValues) : Nat :=
  bit p.mass.isSome 0 + bit p.water.isSome 1 + bit p.cal.isSome 2 + bit p.moist.isSome 3 + bit p.dry.isSome 4

/-- Status word 27: the fault record (R204). -/
def faultWord (f : Option FaultRecord) : Word :=
  match f with
  | none => 0
  | some r =>
    joinHalves r.addr (BitVec.ofNat 16 (1 + bit (r.port == .b) 1 + bit (r.kind == .write) 2 + bit r.multiple 3))

/-- Status word 28: enables of the ranges and the uncovered policy. -/
def guardWord (g : AccessGuard) : Word :=
  BitVec.ofNat 32 ((g.ranges.toList.mapIdx fun i r => bit r.enabled i).sum + bit g.deny 8)

/-- A pending entry is present in any channel (R47). -/
def calPending (e : Engine) : Bool := e.nextCal.mass.isSome || e.nextCal.water.isSome || e.nextCal.cal.isSome

/-- Words 0 to 11 of the status block. -/
def statusHead (s : State) : List Word :=
  [ s.time.tick,
    statusWord1 s.car,
    packHalves s.car.axis.upper.pos s.car.axis.lower.pos,
    joinHalves (BitVec.ofNat 16 (s.eng.openBin.getD 0xFFFF)) (BitVec.ofInt 16 (saturate16 (skew s))),
    s.prof.scanNumber,
    s.prof.lastPublished,
    (match s.prof.closed with
      | none => 0
      | some c => c.number),
    BitVec.ofNat 32 (s.sheet.state.code + 16 * s.sheet.source.code + 256 * (s.sheet.settings.resumeMode % 2)),
    packHalves s.eng.cal.mass.zero s.eng.cal.water.zero,
    joinHalves (BitVec.ofNat 16 s.eng.cal.cal.zero) s.std.zeroGen,
    packHalves (outcomeField s.std.outcomes) (s.std.count % 256 + bit s.std.due 15),
    packHalves (linkHalf s.links.upper) (linkHalf s.links.lower) ]

/-- Words 24 to 30 of the status block. -/
def statusTail (s : State) : List Word :=
  let p := s.eng.point
  [ packHalves (orZero p.mass) (orZero p.water),
    packHalves (orZero p.cal) (orZero p.moist),
    packHalves (orZero p.dry) (pointFlags p),
    faultWord s.guard.fault,
    guardWord s.guard,
    joinHalves s.exp.cycle (BitVec.ofNat 16 (bit s.exp.settings.enable 0)),
    joinHalves s.eng.calGen (BitVec.ofNat 16 (bit (calPending s.eng) 0 + bit s.prof.nextSettings.isSome 1)) ]

/-- The 64 words of the status block as the owning blocks hold them (11; R165, R201). -/
def statusWords (s : State) : List Word :=
  statusHead s ++ s.alarm.entries.toList.map (alarmWord s.alarm) ++ statusTail s ++ List.replicate 33 0

/-- The refresh takes its values: it has word 1 to write next, whatever was still to be written of the one before (R201). -/
def takeRefresh (s : State) : State := s.withRefresh (some ⟨statusWords s, 1⟩)

/-! ## Register window -/

/-- The registers of the port A window (R198). -/
inductive Register where
  | ident | control | notice | nudge
  deriving DecidableEq, Repr

/-- What a read of a register half returns; during the start-up clear every register but IDENT reads 0 (R192, R198). Reading
changes nothing and has no row in the table (log 17). -/
def readRegister (s : State) (r : Register) (high : Bool) : Half :=
  let ready := s.phase == .running
  match r, high with
  | .ident, false => Config.partCode
  | .ident, true => BitVec.ofNat 16 (Config.revision + bit ready 15)
  | .control, false => if ready then s.mask.setWidth 16 else 0
  | .notice, false => if ready then s.notices.setWidth 16 else 0
  | .control, true => 0
  | .notice, true => 0
  | .nudge, _ => 0

/-- The register half a byte address names with register select high: bits 3-2 choose the register, bit 1 the half, the other bits
are ignored (R194). -/
def windowHalf (addr : Half) : Register × Bool :=
  let r : Register :=
    match (addr.extractLsb' 2 2).toNat with
    | 0 => .ident
    | 1 => .control
    | 2 => .notice
    | _ => .nudge
  (r, addr.getLsbD 1)

/-- What a read of the register window at a byte address returns (R194, R198). -/
def readWindow (s : State) (addr : Half) : Half := readRegister s (windowHalf addr).1 (windowHalf addr).2

/-- The command that a write of a value to the register window at a byte address is (R194, R198). -/
def windowWrite (addr value : Half) : Instr :=
  match windowHalf addr with
  | (.ident, false) => .registerWriteIgnored .identLow value
  | (.ident, true) => .registerWriteIgnored .identHigh value
  | (.control, false) => if value.getLsbD 15 then .softReset value else .setNoticeMask value
  | (.control, true) => .registerWriteIgnored .controlHigh value
  | (.notice, false) => .noticeClear value
  | (.notice, true) => .registerWriteIgnored .noticeHigh value
  | (.nudge, high) => .nudge high value

end Sys2Proof.Machine
end

