-- ==== Sys2Proof/Machine/Operands.lean ====
section
/-! DEFINITION. What the order unit reads from a card: the order its words carry, the block that owns it, and the ranges it checks
(12, the card, R210, table of orders). -/

namespace Sys2Proof.Machine

open Sys2Proof

/-! ## Codes and owners -/

/-- The order code of an order (12, table of orders). -/
def orderCode : Order → Nat
  | .setFrame _ => 0x01
  | .home => 0x02
  | .scan _ => 0x03
  | .stop _ => 0x04
  | .moveTo _ => 0x05
  | .park => 0x06
  | .setTimebase _ _ => 0x10
  | .setCal _ _ => 0x11
  | .setProfile _ => 0x12
  | .reseed => 0x13
  | .standardize => 0x18
  | .setStd _ => 0x19
  | .setSheet _ => 0x20
  | .resume => 0x21
  | .setAlarm _ => 0x28
  | .ackAlarms _ => 0x29
  | .silenceHorn => 0x2A
  | .setHorn _ => 0x2B
  | .setExport _ => 0x30
  | .setGuard _ => 0x38
  | .clearGuardFault => 0x39

/-- The block that owns an order (12). -/
def orderOwner : Order → Owner
  | .setFrame _ => .carriage
  | .home => .carriage
  | .scan _ => .carriage
  | .stop _ => .carriage
  | .moveTo _ => .carriage
  | .park => .carriage
  | .setTimebase _ _ => .timeBase
  | .setCal _ _ => .measurement
  | .setProfile _ => .profile
  | .reseed => .profile
  | .standardize => .standardization
  | .setStd _ => .standardization
  | .setSheet _ => .sheet
  | .resume => .sheet
  | .setAlarm _ => .alarm
  | .ackAlarms _ => .alarm
  | .silenceHorn => .alarm
  | .setHorn _ => .alarm
  | .setExport _ => .exportLink
  | .setGuard _ => .guard
  | .clearGuardFault => .guard

/-- The owner of a card that may carry no known order. -/
def cardOwner : Option Order → Owner
  | none => .orderUnit
  | some o => orderOwner o

/-! ## Reading a card -/

/-- Parameter `i` of the copied words 1 to 13: the low half of word `2 + i / 2` for an even `i`, the high half for an odd one. -/
def cardParam (words : List Word) (i : Nat) : Half :=
  let w := words.getD (1 + i / 2) 0
  if i % 2 = 0 then lowHalf w else highHalf w

/-- An unsigned parameter. -/
def paramNat (words : List Word) (i : Nat) : Nat := (cardParam words i).toNat

/-- The order code on a card: the low half of word 1. -/
def cardCode (words : List Word) : Nat := (lowHalf (words.getD 0 0)).toNat

/-- The order on a card, or none when its code is not in the table of orders (R210). -/
def cardOrder (words : List Word) : Option Order :=
  let p := paramNat words
  match cardCode words with
  | 0x01 => some (.setFrame ⟨p 0, p 1, p 2, p 3, p 4, p 5, p 6, p 7, p 8, p 9, p 10, p 11⟩)
  | 0x02 => some .home
  | 0x03 => some (.scan (p 0))
  | 0x04 => some (.stop (p 0))
  | 0x05 => some (.moveTo (p 0))
  | 0x06 => some .park
  | 0x10 => some (.setTimebase (p 0) (p 1))
  | 0x11 => some (.setCal (p 0) ⟨p 1, (cardParam words 2).toInt, p 3, p 4, p 5⟩)
  | 0x12 => some (.setProfile ⟨p 0, p 1, p 2, p 3, p 4, p 5, p 6, p 7, p 8⟩)
  | 0x13 => some .reseed
  | 0x18 => some .standardize
  | 0x19 => some (.setStd ⟨p 0, p 1, p 2⟩)
  | 0x20 => some (.setSheet ⟨p 0, p 1, p 2, p 3, p 4, p 5, p 6, p 7, p 8, p 9, p 10, p 11, p 12⟩)
  | 0x21 => some .resume
  | 0x28 => some (.setAlarm ⟨p 0, p 1, p 2, p 3, p 4⟩)
  | 0x29 => some (.ackAlarms (p 0))
  | 0x2A => some .silenceHorn
  | 0x2B => some (.setHorn (p 0))
  | 0x30 => some (.setExport ⟨p 0, p 1, p 2⟩)
  | 0x38 => some (.setGuard ⟨p 0, p 1, p 2, p 3, p 4⟩)
  | 0x39 => some .clearGuardFault
  | _ => none

/-! ## Ranges (12, table of orders) -/

/-- `n` lies in `lo..hi`. -/
def within (lo hi n : Nat) : Bool := decide (lo ≤ n) && decide (n ≤ hi)

/-- SET_FRAME's fields are in range. -/
def FrameFieldsInRange (r : FrameRecord) : Bool :=
  within 8 1024 r.binW && within 8 480 r.nbins && within 0 4095 r.approach &&
    (r.prescaler == 1 || r.prescaler == 4 || r.prescaler == 16) && within 1 255 r.skewHold &&
    within (r.skewHold + 1) 1023 r.skewFault && within 1 255 r.skewCal && within 1 65535 r.moveTimeout

/-- SET_FRAME's cross-checks hold. -/
def FrameCrossChecks (r : FrameRecord) : Bool :=
  let span := r.bin0Pos + r.nbins * r.binW
  decide (r.parkTend < r.bin0Pos) && decide (span ≤ r.parkDrive) && decide (r.parkDrive ≤ 65000) &&
    decide (r.bin0Pos ≤ r.probePos) && decide (r.probePos < span)

/-- SET_PROFILE's fields are in range. -/
def ProfileInRange (p : ProfileSettings) : Bool :=
  within 1 255 p.binMin && within 0 15 p.edgeMargin && within 1 16 p.kMass && within 1 16 p.kMoist && within 1 16 p.kDry &&
    within 1 16 p.kCal && within 1 16 p.kmd && within 1 255 p.staleScans

/-- SET_SHEET's fields are in range. -/
def SheetInRange (p : SheetSettings) : Bool :=
  within 1 255 p.breakRun && within 1 255 p.brkDebounce && within 0 1 p.resumeMode && within 1 255 p.sheetOnTicks &&
    within 1 63 p.edgeStep && within 0 10000 p.streakLimit && within 1 32 p.streakMinWidth && decide (p.massLo ≤ p.massHi) &&
    within 0 10000 p.moistLo && within p.moistLo 10000 p.moistHi

/-- SET_GUARD's fields are in range: a range record for index 0 to 7, the policy for index 8. -/
def GuardInRange (c : GuardCard) : Bool :=
  if c.index < 8 then
    decide (c.p1 % 256 = 0) && decide (c.p2 % 256 = 255) && decide (c.p1 ≤ c.p2) && within 0 15 c.p3 && within 0 1 c.p4
  else decide (c.index = 8) && within 0 1 c.p1

/-- The order unit's check of the parameters (R210, 3). -/
def orderInRange : Order → Bool
  | .setFrame r => FrameFieldsInRange r && FrameCrossChecks r
  | .home => true
  | .scan n => within 0 255 n
  | .stop m => within 0 1 m
  | .moveTo _ => true
  | .park => true
  | .setTimebase t c => within 0 5 t && within 0 3 c && !(t == 0 && c == 3)
  | .setCal c _ => within 0 2 c
  | .setProfile p => ProfileInRange p
  | .reseed => true
  | .standardize => true
  | .setStd p => within 0 255 p.interval && within 1 255 p.dwell && within 1 4095 p.min
  | .setSheet p => SheetInRange p
  | .resume => true
  | .setAlarm c => within 0 11 c.kind && within 0 1 c.enable && within 0 1 c.severity && within 0 255 c.holdoff &&
      within 0 1 c.latching
  | .ackAlarms m => decide (m < 4096)
  | .silenceHorn => true
  | .setHorn t => within 0 3 t
  | .setExport c => within 0 1 c.enable && within 1 15 c.mask && within 0 255 c.div
  | .setGuard c => GuardInRange c
  | .clearGuardFault => true

/-- The slot belongs to the B group (12). -/
def inGroupB (slot : Slot) : Bool := decide (12 ≤ slot.val)

/-- The order codes that a B group slot accepts (R210, 1). -/
def allowedInB (code : Nat) : Bool := code == 0x18 || code == 0x29 || code == 0x2A

/-- The order unit's checks in their order: the refusal they end in, or none (R210). -/
def cardRefusal (slot : Slot) (code : Nat) (o : Option Order) : Option ResultCode :=
  if inGroupB slot && !allowedInB code then some .notPermitted
  else
    match o with
    | none => some .unknownOrder
    | some o => if orderInRange o then none else some .badParam

/-- The channel a SET_CAL card names. -/
def channelOf (n : Nat) : Channel :=
  match n with
  | 0 => .mass
  | 1 => .water
  | _ => .cal

/-- The profile set a SET_EXPORT mask gives (R169). -/
def profileSet (mask : Nat) : Per4 Bool := Per4.ofFn fun q => mask.testBit (profileId q)

/-- The permissions a SET_GUARD card gives (12). -/
def permissionSet (bits : Nat) : Permissions := ⟨bits.testBit 0, bits.testBit 1, bits.testBit 2, bits.testBit 3⟩

end Sys2Proof.Machine
end

