-- ==== Sys2Proof/Machine/Writers.lean ====
section
/-! DEFINITION. The accesses of the internal writers that need no card's owner: the choice of a page and the publication, the status
block refresh, the order unit's answers, and the ring they stand on (R182 to R185, R193, R201, R211). -/

namespace Sys2Proof.Machine

open Sys2Proof

/-! ## Publication -/

/-- The READY write granted: the five steps that complete a publication (R185). -/
def completePublication (p : Publication) (s : State) : State :=
  let s := s.storeWord (pageWordIdx p.page1 0) 1
  let s := s.onProf fun e =>
    { e with lastWritten1 := p.page1, lastPublished := p.copy.scan.number, publication := none }
  (giveCondition .publish false s).raise .scan

/-- One access of a publication in flight: the next word of the page, READY in word 0 last (R185). -/
def writePage (p : Publication) (s : State) : State :=
  if p.next ≤ Config.pageLastWord then
    (s.storeWord (pageWordIdx p.page1 p.next) (pageWord p.copy p.next)).onProf fun e =>
      { e with publication := some { p with next := p.next + 1 } }
  else completePublication p s

/-- One access of the choice of a page: page 0's state word is read, then page 1's, which decides: the publication is in flight with
the page chosen, or the scan goes unpublished (R182, R183; log 8). -/
def readStateWord (ch : PageChoice) (s : State) : State :=
  match ch.page0Free with
  | none => s.onProf fun p => { p with choice := some { ch with page0Free := some (pageFree s false) } }
  | some free0 =>
    match choosePage free0 (pageFree s true) s.prof.lastWritten1 with
    | none => unpublished (s.onProf fun p => { p with choice := none })
    | some page1 => s.onProf fun p => { p with choice := none, publication := some ⟨page1, ch.copy, 1⟩ }

/-- One access of the profile engine (R182, R185). -/
def profileAccess (s : State) : State :=
  match s.prof.publication, s.prof.choice with
  | some p, _ => writePage p s
  | none, some ch => readStateWord ch s
  | none, none => s

/-! ## Status block refresh -/

/-- One access of the status block refresh: words 1 to 63, word 0 last (R201). -/
def refreshAccess (s : State) : State :=
  match s.refresh with
  | none => s
  | some r =>
    if r.next < 64 then
      (s.storeWord (BitVec.ofNat 14 r.next) (r.words.getD r.next 0)).withRefresh (some { r with next := r.next + 1 })
    else (s.storeWord 0 (r.words.getD 0 0)).withRefresh none

/-! ## Answers -/

/-- The running service passes over slots whose cards are in flight and ends when none is left; it does so only once every
answer given has been written (R208, R210). -/
def trimService (s : State) : State :=
  match s.ord.service, s.ord.answers with
  | some ⟨left, none⟩, [] =>
    let rest := left.dropWhile fun slot => inFlight s slot
    s.onOrd fun o => { o with service := if rest.isEmpty then none else some ⟨rest, none⟩ }
  | _, _ => s

/-- The state word an answer ends in. -/
def Answer.stateWord (a : Answer) : Word := if a.done then cardDone else cardRefused

/-- The card leaves the list of cards in flight (R211). -/
def leaveFlight (slot : Slot) (s : State) : State :=
  s.onOrd fun o => { o with inFlight := o.inFlight.filter fun c => !(c.slot == slot) }

/-- One write of the first answer: result code, result value, state word; the last ends it and raises CARD, and a newer order that
waits for the card's place in the long-order slot takes it (R12, R211, R212). -/
def writeAnswer (a : Answer) (s : State) : State :=
  if s.ord.stage = 0 then
    (s.storeWord (cardWord a.slot 14) (BitVec.ofNat 32 a.code)).onOrd fun o => { o with stage := 1 }
  else if s.ord.stage = 1 then
    (s.storeWord (cardWord a.slot 15) a.value).onOrd fun o => { o with stage := 2 }
  else
    let s := (s.storeWord (cardWord a.slot 0) a.stateWord).onOrd fun o => { o with stage := 0, answers := o.answers.tail }
    passSlot a.slot (trimService ((leaveFlight a.slot s).raise .card))

/-! ## The ring -/

/-- The ring from the requester after the one granted last round to it again (R193). -/
def ringAfter : Requester → List Requester
  | .portA => [.portB, .orderUnit, .profileEngine, .statusRefresh, .portA]
  | .portB => [.orderUnit, .profileEngine, .statusRefresh, .portA, .portB]
  | .orderUnit => [.profileEngine, .statusRefresh, .portA, .portB, .orderUnit]
  | .profileEngine => [.statusRefresh, .portA, .portB, .orderUnit, .profileEngine]
  | .statusRefresh => [.portA, .portB, .orderUnit, .profileEngine, .statusRefresh]

/-- An access of the requester waits. An internal requester with work left presents its next access as soon as the one before has been
granted (DESIGN CHOICE, log 40); the ports' accesses are parts of their own commands (log 7). -/
def waits (s : State) : Requester → Bool
  | .portA => false
  | .portB => false
  | .orderUnit => !s.ord.answers.isEmpty || s.ord.service.isSome
  | .profileEngine => s.prof.publication.isSome || s.prof.choice.isSome
  | .statusRefresh => s.refresh.isSome

end Sys2Proof.Machine
end

