-- ==== Sys2Proof/Machine/Orders.lean ====
section
/-! DEFINITION. What each owner does with an order that passed the order unit's checks (R212 and the rules named in the table of
orders). Every function takes the card slot first; the card is in flight already. -/

namespace Sys2Proof.Machine

open Sys2Proof

/-! ## SET_FRAME (R1, R2) -/

/-- The bin geometry changes with the new record (R1). -/
def geometryChanges (old : Option FrameRecord) (r : FrameRecord) : Bool :=
  match old with
  | none => true
  | some f => f.bin0Pos != r.bin0Pos || f.binW != r.binW || f.nbins != r.nbins

/-- The profile engine and the sheet monitor follow a geometry change (R85, R105, R147). -/
def changeGeometry (n : Nat) (s : State) : State :=
  let s := s.onProf fun p => { clearFilters n p with edges := none }
  let s := s.onSheet fun m => { m with streaks := [], more := false }
  giveCondition .wetStreak false (giveCondition .edge false s)

/-- Positions are invalidated; a PARKED traverse enters HALTED (R1). -/
def invalidatePositions (s : State) : State :=
  let s := s.onCar fun k => { k with valid := false }
  match s.car.traverse with
  | .parked _ => enterHalted s
  | _ => s

/-- Both edge accumulators set to 0 (R1). -/
def clearEdges (s : State) : State :=
  s.onCar fun k => { k with axis := ⟨{ k.axis.upper with edges := 0 }, { k.axis.lower with edges := 0 }⟩ }

/-- SET_FRAME at the carriage controller (R1). -/
def takeSetFrame (slot : Slot) (r : FrameRecord) (s : State) : State :=
  if s.car.traverse.haltedOrParked then
    let geo := geometryChanges s.car.frame r
    let pre := prescaler s.car != r.prescaler
    let inv := pre && s.car.valid
    let s := s.onCar fun k => { k with frame := some r }
    let s := if geo then changeGeometry r.nbins s else s
    let s := if pre then clearEdges s else s
    let s := if inv then invalidatePositions s else s
    answer slot .ok (BitVec.ofNat 32 (bit geo 0 + bit inv 1)) s
  else answer slot .busy 0 s

/-! ## HOME (R13) -/

/-- The traverse may take HOME (R13). -/
def Traverse.takesHome : Traverse → Bool
  | .halted => true
  | .parked _ => true
  | .faulted => true
  | _ => false

/-- HOME at the carriage controller (R13, R14). -/
def takeHome (slot : Slot) (s : State) : State :=
  if s.car.frame.isNone then answer slot .notReady 0 s
  else if s.car.traverse.takesHome then
    let s := holdLong .home slot s
    let s := s.onCar fun k => { k with valid := false, traverse := .homing .seek }
    settle (startSeek s)
  else answer slot .busy 0 s

/-! ## SCAN (R15) -/

/-- The plan a repeat sets (R15). -/
def planOf (repeats : Nat) : Plan := if repeats = 0 then .continuous else .remaining repeats

/-- SCAN in PARKED with the sheet not OFF: a traverse starts at once; a failed start ends the card DONE/ABANDONED (R15). -/
def scanFromPark (slot : Slot) (side : Side) (s : State) : State :=
  let s := traverseStart side s
  if s.car.traverse.isScanning then settle (answer slot .ok s.prof.scanNumber s) else answer slot .abandoned 0 s

/-- SCAN accepted without a traverse of its own: DONE/OK with the scan number plus 1 (R15). -/
def scanLater (slot : Slot) (s : State) : State := answer slot .ok (s.prof.scanNumber + 1) s

/-- SCAN sets the plan in force and drops a pending plan (R15). -/
def setPlan (repeats : Nat) (s : State) : State :=
  s.onCar fun k => { k with plan := planOf repeats, nextPlan := none }

/-- SCAN at the carriage controller (R15). -/
def takeScan (slot : Slot) (repeats : Nat) (s : State) : State :=
  if s.car.frame.isNone then answer slot .notReady 0 s
  else
    match s.car.traverse with
    | .parked side =>
      let s := s.onCar fun k => { k with plan := planOf repeats }
      if s.sheet.state = .off then settle (parkDecision side (scanLater slot s)) else scanFromPark slot side s
    | .scanning _ =>
      if stopInFlight s.car then answer slot .busy 0 s
      else scanLater slot (s.onCar fun k => { k with nextPlan := some (planOf repeats) })
    | .standardizing _ => scanLater slot (setPlan repeats s)
    | .breakPark _ => scanLater slot (setPlan repeats s)
    | .probing _ => scanLater slot (setPlan repeats s)
    | .positioning .returning => scanLater slot (setPlan repeats s)
    | .positioning .point => answer slot .busy 0 s
    | .positioning .park => answer slot .busy 0 s
    | .homing _ => answer slot .busy 0 s
    | .singlePoint _ => answer slot .busy 0 s
    | .halted => answer slot .notReady 0 s
    | .faulted => answer slot .notReady 0 s

/-! ## MOVE_TO and PARK (R19, R20) -/

/-- The traverse may take MOVE_TO (R19). -/
def Traverse.takesMoveTo : Traverse → Bool
  | .parked _ => true
  | .singlePoint _ => true
  | .positioning .point => true
  | _ => false

/-- The traverse is HALTED or FAULTED. -/
def Traverse.isStopped : Traverse → Bool
  | .halted => true
  | .faulted => true
  | _ => false

/-- A STOP or a PARK is in flight (R19). -/
def stopOrParkInFlight (k : CarriageController) : Bool :=
  match k.underWay with
  | none => false
  | some l => l.kind == .stopEnd || l.kind == .stopNow || l.kind == .park

/-- MOVE_TO's target lies from park_tend to park_drive (R19). -/
def betweenParks (f : FrameRecord) (target : Nat) : Bool := decide (f.parkTend ≤ target) && decide (target ≤ f.parkDrive)

/-- Why MOVE_TO is refused, if it is (R19). -/
def moveToRefusal (target : Nat) (s : State) : Option ResultCode :=
  match s.car.frame with
  | none => some .notReady
  | some f =>
    if s.car.traverse.isStopped then some .notReady
    else if !s.car.traverse.takesMoveTo || stopOrParkInFlight s.car then some .busy
    else if !betweenParks f target then some .badParam
    else none

/-- MOVE_TO at the carriage controller; a MOVE_TO in flight is superseded (R19, R212). -/
def takeMoveTo (slot : Slot) (target : Nat) (s : State) : State :=
  match moveToRefusal target s with
  | some c => answer slot c 0 s
  | none =>
    let s := replaceLong .superseded .moveTo slot (clearPlan s)
    settle (startMove .point target (s.onCar fun k => { k with traverse := .positioning .point }))

/-- PARK at the carriage controller (R20). -/
def takePark (slot : Slot) (s : State) : State :=
  match s.car.traverse with
  | .singlePoint _ => settle (startPark (holdLong .park slot s))
  | .parked _ => answer slot .ok 0 s
  | .halted => answer slot .notReady 0 s
  | .faulted => answer slot .notReady 0 s
  | .homing _ => answer slot .busy 0 s
  | .standardizing _ => answer slot .busy 0 s
  | .scanning _ => answer slot .busy 0 s
  | .positioning _ => answer slot .busy 0 s
  | .breakPark _ => answer slot .busy 0 s
  | .probing _ => answer slot .busy 0 s

/-! ## STOP (R21, R22) -/

/-- A STOP NOW is in flight (R22). -/
def stopNowInFlight (k : CarriageController) : Bool :=
  match k.underWay with
  | none => false
  | some l => l.kind == .stopNow

/-- Both plans cleared (R22). -/
def clearPlans (s : State) : State := s.onCar fun k => { k with plan := .empty, nextPlan := none }

/-- How a STOP NOW ends the long order under way: a STOP END is superseded, any other is abandoned (R22). -/
def stopNowEnds (k : CarriageController) : ResultCode := if stopInFlight k then .superseded else .abandoned

/-- A STOP NOW takes the long-order slot (R22, R212). -/
def holdStopNow (slot : Slot) (s : State) : State := replaceLong (stopNowEnds s.car) .stopNow slot s

/-- STOP NOW's PARK move: the card takes the slot from the order it ends (R22, R212). -/
def stopByPark (slot : Slot) (s : State) : State := settle (startPark (holdStopNow slot s))

/-- A STOP NOW that needs no slot ends a STOP END in flight (R22). -/
def supersedeStopEnd (s : State) : State := if stopInFlight s.car then answerLong .superseded 0 s else s

/-- STOP NOW taken in HOMING: the HOME card abandoned, drives dropped, HALTED with positions invalid (R22, R212). -/
def stopHoming (slot : Slot) (s : State) : State :=
  let s := answerLong (stopNowEnds s.car) 0 s
  answer slot .ok 0 (enterHalted (s.onCar fun k => { k with move := none, valid := false }))

/-- STOP NOW in a state that takes it, both plans cleared (R22). -/
def stopNowIn (slot : Slot) (s : State) : State :=
  match s.car.traverse with
  | .scanning _ => stopByPark slot (closeScan (.aborted .stop) s)
  | .standardizing side => answer slot .ok 0 (enterParked side (abandonDwell (supersedeStopEnd s)))
  | .positioning _ => stopByPark slot s
  | .singlePoint _ => stopByPark slot s
  | .probing _ => stopByPark slot s
  | .breakPark _ => holdStopNow slot s
  | .parked _ => answer slot .ok 0 (supersedeStopEnd s)
  | .homing _ => stopHoming slot s
  | .halted => answer slot .notReady 0 s
  | .faulted => answer slot .notReady 0 s

/-- Why STOP NOW is refused, if it is (R22). -/
def stopNowRefusal (s : State) : Option ResultCode :=
  if s.car.traverse.isStopped then some .notReady else if stopNowInFlight s.car then some .busy else none

/-- STOP NOW at the carriage controller (R22). -/
def takeStopNow (slot : Slot) (s : State) : State :=
  match stopNowRefusal s with
  | some c => answer slot c 0 s
  | none => stopNowIn slot (clearPlans s)

/-- STOP END held in SCANNING and STANDARDIZING: the card takes the slot and the pending plan is dropped (R21). -/
def holdStopEnd (slot : Slot) (s : State) : State :=
  holdLong .stopEnd slot (s.onCar fun k => { k with nextPlan := none })

/-- Why STOP END is refused, if it is (R21). -/
def stopEndRefusal (s : State) : Option ResultCode :=
  if s.car.traverse.isStopped then some .notReady
  else if s.car.traverse.isHoming || stopInFlight s.car then some .busy
  else none

/-- STOP END acts as STOP NOW in POSITIONING, SINGLE_POINT and PROBING (R21). -/
def Traverse.endActsAsNow : Traverse → Bool
  | .positioning _ => true
  | .singlePoint _ => true
  | .probing _ => true
  | _ => false

/-- STOP END at the carriage controller; where it acts as STOP NOW its card is held as one (R21, log 12). -/
def takeStopEnd (slot : Slot) (s : State) : State :=
  match stopEndRefusal s with
  | some c => answer slot c 0 s
  | none =>
    if s.car.traverse.endActsAsNow then takeStopNow slot s
    else
      match s.car.traverse with
      | .scanning _ => holdStopEnd slot s
      | .standardizing _ => holdStopEnd slot s
      | .breakPark _ => holdLong .stopEnd slot s
      | _ => answer slot .ok 0 (clearPlan s)

/-- STOP by its mode: END 0, NOW 1. -/
def takeStop (slot : Slot) (mode : Nat) (s : State) : State :=
  if mode = 0 then takeStopEnd slot s else takeStopNow slot s

/-! ## Time base, calibration, profile settings -/

/-- SET_TIMEBASE at the time base (R33). -/
def takeSetTimebase (slot : Slot) (tickCode sampleCode : Nat) (s : State) : State :=
  if s.car.traverse.haltedOrParked then answer slot .ok 0 (s.onTime fun t => { t with next := some (tickCode, sampleCode) })
  else answer slot .busy 0 s

/-- SET_CAL at the measurement engine (R48, R49). -/
def takeSetCal (slot : Slot) (channel : Nat) (v : CalValues) (s : State) : State :=
  if s.car.traverse.isScanning then
    answer slot .ok 1 (s.onEng fun e => { e with nextCal := e.nextCal.set (channelOf channel) (some v) })
  else answer slot .ok 0 (s.onEng (applyCal (channelOf channel) v))

/-- SET_PROFILE at the profile engine (R88). -/
def takeSetProfile (slot : Slot) (v : ProfileSettings) (s : State) : State :=
  if s.car.traverse.isScanning then answer slot .ok 1 (s.onProf fun p => { p with nextSettings := some v })
  else answer slot .ok 0 (s.onProf fun p => { p with settings := v, nextSettings := none })

/-- RESEED at the profile engine (R104). -/
def takeReseed (slot : Slot) (s : State) : State :=
  answer slot .ok (BitVec.ofNat 32 (bit s.prof.reseed 0)) (s.onProf fun p => { p with reseed := true })

/-! ## Standardization (R109, R112) -/

/-- The due flag set. -/
def setDue (s : State) : State := s.onStd fun u => { u with due := true }

/-- A STANDARDIZE card is held by the standardization unit (R112). -/
def holdStd (slot : Slot) (s : State) : State := s.onStd fun u => { u with card := some slot }

/-- STANDARDIZE in PARKED: a dwell begins at once at that park (R112, R114). -/
def standardizeParked (slot : Slot) (side : Side) (s : State) : State :=
  beginDwell (holdStd slot (setDue (s.onCar fun k => { k with traverse := .standardizing side })))

/-- STANDARDIZE at the standardization unit (R112). -/
def takeStandardize (slot : Slot) (s : State) : State :=
  if s.car.traverse.isStopped then answer slot .notReady 0 s
  else if s.std.card.isSome then answer slot .busy 0 s
  else
    match s.car.traverse with
    | .parked side => standardizeParked slot side s
    | .standardizing _ => holdStd slot s
    | .scanning _ => holdStd slot (setDue s)
    | .breakPark _ => holdStd slot (setDue s)
    | .probing _ => holdStd slot (setDue s)
    | .positioning .returning => holdStd slot (setDue s)
    | .positioning .point => answer slot .busy 0 s
    | .positioning .park => answer slot .busy 0 s
    | .homing _ => answer slot .busy 0 s
    | .singlePoint _ => answer slot .busy 0 s
    | .halted => answer slot .notReady 0 s
    | .faulted => answer slot .notReady 0 s

/-- SET_STD at the standardization unit: 1 when the test of R110 set the due flag (R109). -/
def takeSetStd (slot : Slot) (v : StdSettings) (s : State) : State :=
  if s.car.traverse.isStandardizing then answer slot .busy 0 s
  else
    let u := testDue { s.std with settings := v }
    answer slot .ok (BitVec.ofNat 32 (bit (!s.std.due && u.due) 0)) (s.onStd fun _ => u)

/-! ## Sheet (R140, R149) -/

/-- SET_SHEET at the sheet monitor (R149). -/
def takeSetSheet (slot : Slot) (v : SheetSettings) (s : State) : State :=
  answer slot .ok 0 (s.onSheet fun m => { m with settings := v })

/-- RESUME at the sheet monitor (R140). One taken after a break of the same moment turns the sheet ON again, as R140 gives and against the
last sentence of R138 (DESIGN CHOICE, log 44). -/
def takeResume (slot : Slot) (s : State) : State :=
  if s.sheet.state = .off then
    if s.sheet.debounce = 0 then declareSheetOn (answer slot .ok (BitVec.ofNat 32 s.sheet.source.code) s)
    else answer slot .busy 0 s
  else answer slot .notReady 0 s

/-! ## Alarms (R158, R159, R163, R164) -/

/-- An entry with the four settings of a card (R159). -/
def AlarmEntry.withSettings (e : AlarmEntry) (c : AlarmCard) : AlarmEntry :=
  { e with enabled := c.enable == 1, major := c.severity == 1, holdoff := c.holdoff, latching := c.latching == 1 }

/-- The order restarts the entry: enabled by it, or kept enabled with another severity (R159). -/
def restarts (old new : AlarmEntry) : Bool := new.enabled && (!old.enabled || old.major != new.major)

/-- The entry after SET_ALARM (R159). -/
def AlarmEntry.setTo (e : AlarmEntry) (c : AlarmCard) : AlarmEntry :=
  let n := e.withSettings c
  if !n.enabled then { n with state := .normal, remaining := 0 } else if restarts e n then n.restart else n

/-- The order changes the entry's state as R160 counts it: a restart, or the disabling of an entry not in NORMAL. -/
def AlarmEntry.setChanges (e : AlarmEntry) (c : AlarmCard) : Bool :=
  let n := e.withSettings c
  restarts e n || (e.enabled && !n.enabled && e.state != .normal)

/-- SET_ALARM at the alarm unit for a kind (R159, R160, R162). -/
def setAlarmOf (slot : Slot) (k : AlarmKind) (c : AlarmCard) (s : State) : State :=
  let e := s.alarm.entry k
  let n := e.setTo c
  let changes := e.setChanges c
  let s := s.onAlarm fun a =>
    ({ a.setEntry k n with silence := if clearsSilence n changes then false else a.silence } : AlarmUnit).heard
  answer slot .ok (BitVec.ofNat 32 n.state.code) (s.raiseIf changes .alarm)

/-- SET_ALARM at the alarm unit; a kind outside 0 to 11 has been refused before (R159, R210). -/
def takeSetAlarm (slot : Slot) (c : AlarmCard) (s : State) : State :=
  match kindOf c.kind with
  | none => answer slot .badParam 0 s
  | some k => setAlarmOf slot k c s

/-- The table after the entries a mask names are acknowledged (R158). -/
def AlarmUnit.ackAll (a : AlarmUnit) (mask : Nat) : AlarmUnit :=
  { a with entries := a.entries.mapFinIdx fun i e _ => if mask.testBit i then e.ack else e }

/-- How many of the entries a mask names change when they are acknowledged (R158). -/
def AlarmUnit.ackCount (a : AlarmUnit) (mask : Nat) : Nat :=
  (a.entries.toList.mapIdx fun i e => mask.testBit i && e.unacked).count true

/-- ACK_ALARMS at the alarm unit: one change of the table, one ALARM (R158, R160). -/
def takeAckAlarms (slot : Slot) (mask : Nat) (s : State) : State :=
  let n := s.alarm.ackCount mask
  let s := (s.onAlarm fun a => (a.ackAll mask).heard).raiseIf (decide (0 < n)) .alarm
  answer slot .ok (BitVec.ofNat 32 n) s

/-- SILENCE_HORN at the alarm unit (R163). -/
def takeSilenceHorn (slot : Slot) (s : State) : State :=
  answer slot .ok (BitVec.ofNat 32 (bit (hornSounds s.alarm) 0)) (s.onAlarm fun a => ({ a with silence := true } : AlarmUnit).heard)

/-- SET_HORN at the alarm unit: while the horn sounds the wave starts again, HORN high (R164). -/
def takeSetHorn (slot : Slot) (tone : Nat) (s : State) : State :=
  let s := s.onAlarm fun a => { a with tone := tone }
  let s := if hornSounds s.alarm then { s with pins := { s.pins with horn := true } } else s
  answer slot .ok 0 s

/-! ## Export link and guard (R169, R205, R206) -/

/-- SET_EXPORT at the export link (R169). -/
def takeSetExport (slot : Slot) (c : ExportCard) (s : State) : State :=
  let v : ExportSettings := { enable := c.enable == 1, profiles := profileSet c.mask, div := c.div }
  answer slot .ok (s.exp.cycle.setWidth 32) (s.onExp fun e => { e with next := some v })

/-- SET_GUARD at the guard: a range record replaced whole, or the uncovered policy (R205). -/
def setGuardOf (c : GuardCard) (g : AccessGuard) : AccessGuard :=
  if h : c.index < 8 then
    { g with ranges := g.ranges.set c.index ⟨c.p1, c.p2, permissionSet c.p3, c.p4 == 1⟩ h }
  else { g with deny := c.p1 == 1 }

/-- SET_GUARD (R205). -/
def takeSetGuard (slot : Slot) (c : GuardCard) (s : State) : State := answer slot .ok 0 (s.onGuard (setGuardOf c))

/-- The result value of CLEAR_GUARD_FAULT (R206). -/
def clearValue (f : Option FaultRecord) : Word :=
  match f with
  | none => 0
  | some r => if r.multiple then 2 else 1

/-- CLEAR_GUARD_FAULT at the guard (R206). -/
def takeClearGuardFault (slot : Slot) (s : State) : State :=
  match s.guard.fault with
  | none => answer slot .ok 0 s
  | some r => answer slot .ok (clearValue (some r)) (giveCondition .access false (s.onGuard fun g => { g with fault := none }))

/-! ## Hand-over -/

/-- An order that passed the checks is handed to its owner (R210). -/
def handOver (slot : Slot) (o : Order) (s : State) : State :=
  match o with
  | .setFrame r => takeSetFrame slot r s
  | .home => takeHome slot s
  | .scan n => takeScan slot n s
  | .stop m => takeStop slot m s
  | .moveTo t => takeMoveTo slot t s
  | .park => takePark slot s
  | .setTimebase t c => takeSetTimebase slot t c s
  | .setCal c v => takeSetCal slot c v s
  | .setProfile p => takeSetProfile slot p s
  | .reseed => takeReseed slot s
  | .standardize => takeStandardize slot s
  | .setStd p => takeSetStd slot p s
  | .setSheet p => takeSetSheet slot p s
  | .resume => takeResume slot s
  | .setAlarm c => takeSetAlarm slot c s
  | .ackAlarms m => takeAckAlarms slot m s
  | .silenceHorn => takeSilenceHorn slot s
  | .setHorn t => takeSetHorn slot t s
  | .setExport c => takeSetExport slot c s
  | .setGuard c => takeSetGuard slot c s
  | .clearGuardFault => takeClearGuardFault slot s

/-- The order unit checks a card and refuses it at once, or hands it to its owner (R210). -/
def checkCard (slot : Slot) (code : Nat) (o : Option Order) (s : State) : State :=
  match cardRefusal slot code o with
  | some c => answer slot c 0 s
  | none =>
    match o with
    | none => s
    | some o => handOver slot o s

/-- A card written TAKEN: word 0 is stored, the card joins the list of cards in flight and its slot is the last taken (R208,
R209). -/
def markTaken (slot : Slot) (code : Nat) (o : Option Order) (s : State) : State :=
  let s := (s.storeWord (cardWord slot 0) cardTaken).withArbLast .orderUnit
  s.onOrd fun u => { u with inFlight := u.inFlight ++ [⟨slot, code, cardOwner o⟩], lastSlot := slot }

/-- A card is taken: TAKEN is written, and the copy is checked and handed over (R209, R210). -/
def takeCard (slot : Slot) (code : Nat) (o : Option Order) (s : State) : State :=
  checkCard slot code o (markTaken slot code o s)

end Sys2Proof.Machine
end

