-- ==== Sys2Proof/Machine/CardService.lean ====
section
/-! DEFINITION. The order unit's card service and its accesses: examining slots, reading a card, writing TAKEN and the answers
(R208 to R211). -/

namespace Sys2Proof.Machine

open Sys2Proof

/-! ## The service -/

/-- The sixteen slots of a service, from the slot after the last slot taken, wrapping from 15 to 0 (R208). -/
def serviceSlots (last : Slot) : List Slot := (List.finRange 16).map fun i => i + last + 1

/-- A service starts (R208). -/
def startService (s : State) : State :=
  trimService (s.onOrd fun o => { o with service := some ⟨serviceSlots o.lastSlot, none⟩ })

/-- A card service is requested: it starts at once when none runs and none is queued, else one more is queued (R208, log 28). -/
def requestService (s : State) : State :=
  match s.ord.service with
  | none => startService s
  | some _ => s.onOrd fun o => { o with queued := true }

/-- The queued service starts once no service runs (R208). -/
def startQueued (s : State) : State :=
  match s.ord.service with
  | none => if s.ord.queued then startService (s.onOrd fun o => { o with queued := false }) else s
  | some _ => s

/-! ## Accesses of the order unit -/

/-- One access of a card being taken: words 1 to 13 are read in increasing order, then TAKEN is written (R209). -/
def readCard (left : List Slot) (c : CardRead) (s : State) : State :=
  if c.words.length < 13 then
    let w := s.mem.readWord (cardWord c.slot (1 + c.words.length))
    s.onOrd fun o => { o with service := some ⟨left, some ⟨c.slot, c.words ++ [w]⟩⟩ }
  else
    let s := s.onOrd fun o => { o with service := some ⟨left, none⟩ }
    trimService (takeCard c.slot (cardCode c.words) (cardOrder c.words) s)

/-- One access of a service that examines a slot: its state word is read, and POSTED begins the taking of the card (R208). -/
def examineSlot (left : List Slot) (s : State) : State :=
  match left with
  | [] => s.onOrd fun o => { o with service := none }
  | slot :: rest =>
    if s.mem.readWord (cardWord slot 0) = cardPosted then
      s.onOrd fun o => { o with service := some ⟨rest, some ⟨slot, []⟩⟩ }
    else trimService (s.onOrd fun o => { o with service := some ⟨rest, none⟩ })

/-- One access of the order unit: answers first, then the running service (R210, log 11). -/
def orderUnitAccess (s : State) : State :=
  match s.ord.answers with
  | a :: _ => writeAnswer a s
  | [] =>
    match s.ord.service with
    | none => s
    | some ⟨left, some c⟩ => readCard left c s
    | some ⟨left, none⟩ => examineSlot left s

end Sys2Proof.Machine
end

