-- ==== Sys2Proof/Machine/Arbiter.lean ====
section
/-! DEFINITION. The arbiter's grants to the waiting requesters, round the ring, the taking of a card that an order command stands for,
and the start-up clear (R192, R193, R208 to R210). -/

namespace Sys2Proof.Machine

open Sys2Proof

/-! ## The ring -/

/-- The access of a requester is made. -/
def access (r : Requester) (s : State) : State :=
  match r with
  | .portA => s
  | .portB => s
  | .orderUnit => orderUnitAccess s
  | .profileEngine => profileAccess s
  | .statusRefresh => refreshAccess s

/-- A grant: the requester becomes the one granted last, and its access is made. -/
def grantTo (r : Requester) (s : State) : State := access r (s.withArbLast r)

/-- The first waiting requester after the one granted last is granted (R193). -/
def grantNext (s : State) : State :=
  match (ringAfter s.arbLast).find? (waits s) with
  | none => s
  | some r => grantTo r s

/-- It is the requester's turn: no other waits before it on the ring (R193). -/
def hisTurn (p : Requester) (s : State) : Bool := ((ringAfter s.arbLast).takeWhile fun r => r != p).all fun r => !waits s r

/-- Grants are made, the lines following each, until the state is as wanted; at most as many as the fuel. -/
def grantUntil (wanted : State → Bool) : Nat → State → State
  | 0, s => s
  | n + 1, s => if wanted s then s else grantUntil wanted n (driveLines (grantNext s))

/-- The requester's turn comes: the four others, as far as they wait before it on the ring, are granted first (R193). -/
def waitTurn (p : Requester) (s : State) : State := (grantUntil (hisTurn p) 4 s).withArbLast p

/-! ## Cards taken by an order command -/

/-- The running service has read POSTED in a slot and not yet written TAKEN (R209). -/
def readingCard (s : State) : Bool :=
  match s.ord.service with
  | some ⟨_, some _⟩ => true
  | _ => false

/-- The order unit may write TAKEN for another card: its answers are written, no card is being read, and it is its turn (R193, R209,
R210; logs 9, 11). -/
def mayTake (s : State) : Bool := s.ord.answers.isEmpty && !readingCard s && hisTurn .orderUnit s

/-- Grants enough until the order unit may take a card: three writes for each answer, at most fourteen accesses for the card being
read and nine for what it ends, each with at most two grants of others before it. -/
def takeFuel (s : State) : Nat := 9 * s.ord.answers.length + 90

/-- An order command: a card that carries the order is taken from its slot, at the order unit's turn once what it has in hand is done
(R193, R209, R210). A slot whose card is then in flight is passed over (R208; log 9). -/
def deliver (slot : Slot) (o : Order) (s : State) : State :=
  whenRunning s fun s =>
    let s := grantUntil mayTake (takeFuel s) s
    if inFlight s slot then s else trimService (takeCard slot (orderCode o) (some o) s)

/-! ## Start-up clear -/

/-- One access of the start-up clear: 0 into the next word; the last word is not left (R192, log 22). -/
def clearAccess (n : WordIdx) (s : State) : State :=
  { s.storeWord n 0 with phase := .clearing (if n = 16383 then n else n + 1) }

end Sys2Proof.Machine
end

