-- ==== Sys2Proof/Machine/Ports.lean ====
section
/-! DEFINITION. Commands of the two ports and of the arbiter (R192 to R197, R202 to R204). -/

namespace Sys2Proof.Machine

open Sys2Proof

/-! ## Port A -/

/-- The word a port A address names (R194). -/
def portWord (addr : Half) : WordIdx := addr.extractLsb' 2 14

/-- The byte address of a word's low half. -/
def lowAddr (addr : Half) : Half := addr &&& 0xFFFC

/-- The byte address of a word's high half. -/
def highAddr (addr : Half) : Half := (addr &&& 0xFFFC) ||| 2

/-- What a port A access does by the phase of the part: nothing in reset, `clearing` while the start-up clear runs (R192). -/
def portPhase (s : State) (clearing running : State → State) : State :=
  match s.phase with
  | .held => s
  | .clearing _ => clearing s
  | .running => running s

/-- A port A read returns a half. -/
def returnHalf (h : Half) (s : State) : State := s.onPortA fun a => { a with data := h }

/-- The latch emptied. -/
def emptyLatch (s : State) : State := s.onPortA fun a => { a with latch := none }

/-- A port A low-half write (R195). -/
def lowHalfWrite (addr data : Half) (s : State) : State :=
  if permits s.guard .a .write (lowAddr addr).toNat then s.onPortA fun a => { a with latch := some (portWord addr, data) }
  else reportDenial .a .write (lowAddr addr) (emptyLatch s)

/-- The memory after a granted high-half write: the whole word when the latch holds it, else the high half alone (R195). -/
def highHalfStore (latch : Option (WordIdx × Half)) (w : WordIdx) (data : Half) (m : Memory) : Memory :=
  match latch with
  | some (l, low) => if l = w then m.writeWord w (joinHalves low data) else m.writeHalf (wordAddr w + 2) data
  | none => m.writeHalf (wordAddr w + 2) data

/-- A port A high-half write (R195). -/
def highHalfWrite (addr data : Half) (s : State) : State :=
  if permits s.guard .a .write (highAddr addr).toNat then
    let latch := s.portA.latch
    emptyLatch ((waitTurn .portA s).onMem (highHalfStore latch (portWord addr) data))
  else reportDenial .a .write (highAddr addr) (emptyLatch s)

/-- A port A low-half read (R196). -/
def lowHalfRead (addr : Half) (s : State) : State :=
  if permits s.guard .a .read (lowAddr addr).toNat then
    let s := waitTurn .portA s
    let v := s.mem.readWord (portWord addr)
    s.onPortA fun a => { a with capture := some (portWord addr, v), data := lowHalf v }
  else reportDenial .a .read (lowAddr addr) (s.onPortA fun a => { a with capture := none, data := 0 })

/-- The read capture holds a word (R196). -/
def captured (c : Option (WordIdx × Word)) (w : WordIdx) : Option Word :=
  match c with
  | none => none
  | some (k, v) => if k = w then some v else none

/-- A port A high-half read (R196). -/
def highHalfRead (addr : Half) (s : State) : State :=
  if permits s.guard .a .read (highAddr addr).toNat then
    match captured s.portA.capture (portWord addr) with
    | some v => returnHalf (highHalf v) s
    | none =>
      let s := waitTurn .portA s
      returnHalf (highHalf (s.mem.readWord (portWord addr))) s
  else reportDenial .a .read (highAddr addr) (returnHalf 0 s)

/-- PORT_A_LOW_HALF_WRITE (R195). -/
def execPortALowHalfWrite (addr data : Half) (s : State) : Host.Outcome State Fault Refusal :=
  done (portPhase s id (lowHalfWrite addr data))

/-- PORT_A_HIGH_HALF_WRITE (R195). -/
def execPortAHighHalfWrite (addr data : Half) (s : State) : Host.Outcome State Fault Refusal :=
  done (portPhase s id (highHalfWrite addr data))

/-- PORT_A_LOW_HALF_READ (R196); 0 while the start-up clear runs (R192). -/
def execPortALowHalfRead (addr : Half) (s : State) : Host.Outcome State Fault Refusal :=
  done (portPhase s (returnHalf 0) (lowHalfRead addr))

/-- PORT_A_HIGH_HALF_READ (R196); 0 while the start-up clear runs (R192). -/
def execPortAHighHalfRead (addr : Half) (s : State) : Host.Outcome State Fault Refusal :=
  done (portPhase s (returnHalf 0) (highHalfRead addr))

/-! ## Port B -/

/-- The byte of a word that port B shifts in position 0 to 3: high byte first (R197). -/
def wordByte (w : Word) (pos : Nat) : Byte := w.extractLsb' (8 * (3 - pos)) 8

/-- A transfer begins: its command byte is shifted in while 0 leaves (R197). -/
def beginTransfer (k : TransferKind) (s : State) : State :=
  s.onPortB fun _ => { transfer := some ⟨k, [], 0, 0, 0⟩, out := [0] }

/-- One byte leaves port B and the transfer goes on as given. -/
def shiftByte (t : Transfer) (out : Byte) (s : State) : State :=
  s.onPortB fun b => { transfer := some t, out := b.out ++ [out] }

/-- The word a port B READ shifts out next: read whole at one grant, or four zero bytes where the guard denies it, and nothing
read while the part is not running (R192, R197, R203). -/
def fetchWord (addr : Half) (s : State) : State × Word :=
  match s.phase with
  | .running =>
    if permits s.guard .b .read addr.toNat then
      let s := waitTurn .portB s
      (s, s.mem.readWord (portWord addr))
    else (reportDenial .b .read addr s, 0)
  | _ => (s, 0)

/-- The word a port B WRITE has completed: stored whole at one grant, dropped where the guard denies it and while the part is not
running (R192, R197, R203). -/
def depositWord (addr : Half) (w : Word) (s : State) : State :=
  match s.phase with
  | .running =>
    if permits s.guard .b .write addr.toNat then (waitTurn .portB s).storeWord (portWord addr) w
    else reportDenial .b .write addr s
  | _ => s

/-- The transfer one byte position on; after the fourth byte the address has risen by 4 (R197). -/
def Transfer.advance (t : Transfer) : Transfer :=
  if t.pos = 3 then { t with pos := 0, addr := t.addr + 4 } else { t with pos := t.pos + 1 }

/-- A data byte of a READ transfer (R197). -/
def readByte (t : Transfer) (s : State) : State :=
  if t.pos = 0 then
    let (s, w) := fetchWord t.addr s
    shiftByte { t with word := w, pos := 1 } (wordByte w 0) s
  else shiftByte t.advance (wordByte t.word t.pos) s

/-- A data byte of a WRITE transfer (R197). -/
def writeByte (t : Transfer) (x : Byte) (s : State) : State :=
  let w : Word := (t.word <<< 8) ||| x.setWidth 32
  let t := { t with word := w }
  if t.pos = 3 then shiftByte t.advance 0 (depositWord t.addr w s) else shiftByte t.advance 0 s

/-- An address byte: high byte first; the two low bits of the address are ignored (R197). -/
def Transfer.addrByte (t : Transfer) (x : Byte) : Transfer :=
  match t.addrBytes with
  | [] => { t with addrBytes := [x] }
  | hi :: _ => { t with addrBytes := [hi, x], addr := (hi ++ x) &&& 0xFFFC }

/-- One byte after the command byte of a transfer (R197). -/
def transferByte (s : State) (x : Byte) : State :=
  match s.portB.transfer with
  | none => s
  | some t =>
    if t.addrBytes.length < 2 then shiftByte (t.addrByte x) 0 s
    else
      match t.kind with
      | .read => readByte t s
      | .write => writeByte t x s
      | .other => shiftByte t 0 s

/-- A transfer of this kind is in progress, and a command of the same row goes on with it. -/
def continues (k : TransferKind) (s : State) : Bool :=
  match s.portB.transfer with
  | none => false
  | some t => t.kind == k

/-- A port B command: its transfer begins, unless one of its kind is in progress, and its bytes are shifted in one by one
(R197, log 16). In reset the port is still. -/
def portBBytes (k : TransferKind) (bytes : List Byte) (s : State) : State :=
  match s.phase with
  | .held => s
  | _ => bytes.foldl transferByte (if continues k s then s else beginTransfer k s)

/-- PORT_B_READ (R197). -/
def execPortBRead (bytes : List Byte) (s : State) : Host.Outcome State Fault Refusal := done (portBBytes .read bytes s)

/-- PORT_B_WRITE (R197). -/
def execPortBWrite (bytes : List Byte) (s : State) : Host.Outcome State Fault Refusal := done (portBBytes .write bytes s)

/-- PORT_B_OTHER_COMMAND: a transfer with any other command byte is ignored and shifts out zeros (R197). -/
def execPortBOtherCommand (_command : Byte) (bytes : List Byte) (s : State) : Host.Outcome State Fault Refusal :=
  done (portBBytes .other bytes s)

/-- PORT_B_TRANSFER_END: chip select rises; a word not completed is not stored (R197). -/
def execPortBTransferEnd (s : State) : Host.Outcome State Fault Refusal :=
  done (s.onPortB fun b => { b with transfer := none })

/-! ## Arbiter -/

/-- The arbiter's next grant: to the next waiting requester, or to the start-up clear (R192, R193). -/
def arbitrate (s : State) : State :=
  match s.phase with
  | .held => s
  | .clearing n => clearAccess n s
  | .running => grantNext s

/-- ARBITER_GRANT (R193). -/
def execArbiterGrant (s : State) : Host.Outcome State Fault Refusal := done (arbitrate s)

end Sys2Proof.Machine
end

