-- ==== Sys2Proof/Machine/Registers.lean ====
section
/-! DEFINITION. Commands of the resets, the start-up and the register window (R192, R198 to R200; the soft resets R30, R34, R46, R63,
R86, R89, R107, R127, R151, R167, R179, R190, R194, R213). -/

namespace Sys2Proof.Machine

open Sys2Proof

/-! ## Pin reset and start-up -/

/-- The pin reset state of every block; the inputs keep their levels, and memory waits for the start-up clear (R192, log 26). -/
def pinReset (s : State) : State :=
  { State.reset with inputs := s.inputs, frameOk := s.frameOk, mem := s.mem, pending := s.pending }

/-- PIN_RESET (R29 and the pin reset rule of every block). -/
def execPinReset (s : State) : Host.Outcome State Fault Refusal := done (pinReset s)

/-- RST rises and the clear begins at word 0 (R192). -/
def beginClear (s : State) : State :=
  match s.phase with
  | .held => { s with phase := .clearing 0 }
  | _ => s

/-- START_UP_CLEAR (R192). -/
def execStartUpClear (s : State) : Host.Outcome State Fault Refusal := done (beginClear s)

/-- The last word has been written; READY is 1 and the dividers start, the flash divider with an on half (R31, R161, R192). -/
def endClear (s : State) : State :=
  match s.phase with
  | .clearing _ => { s with mem := [], phase := .running, alarm := { s.alarm with flashOn := true } }
  | _ => s

/-- START_UP_CLEAR_END (R192). -/
def execStartUpClearEnd (s : State) : Host.Outcome State Fault Refusal := done (endClear s)

/-! ## Soft reset -/

/-- The answer a card in flight gets at a soft reset: the decided one where the order unit refused the card or its owner answered
it at once, else DONE/ABANDONED with 0, also for a long order whose ending event has come (R213; DEDUCED, log 41). -/
def softAnswerOf (answers : List Answer) (slot : Slot) : Answer :=
  (answers.find? fun a => a.slot == slot && a.atOnce).getD ⟨slot, true, ResultCode.abandoned.value, 0, false⟩

/-- The three writes of an answer made at once, with CARD raised (R211, R213). -/
def writeWhole (a : Answer) (s : State) : State :=
  let s := s.storeWord (cardWord a.slot 14) (BitVec.ofNat 32 a.code)
  let s := s.storeWord (cardWord a.slot 15) a.value
  ((s.storeWord (cardWord a.slot 0) a.stateWord).withArbLast .orderUnit).raise .card

/-- One card in flight answered by a soft reset (R213). -/
def softAnswer (s : State) (c : InFlight) : State := writeWhole (softAnswerOf s.ord.answers c.slot) s

/-- The order unit's soft reset: every card in flight is answered, the service stops, the lists are emptied, the last slot taken
is kept (R213). DESIGN CHOICE (log 45): the order unit's access that waits ungranted at the reset, a TAKEN write or a read, is not the
one that R213 has in progress and is dropped. DESIGN CHOICE (log 46): the card writes follow each other with no grant between them, and
a word of the status block refresh that waits is dropped ungranted with the refresh (R193, R200). -/
def softResetOrders (s : State) : State :=
  (s.ord.inFlight.foldl softAnswer s).onOrd fun o =>
    { o with service := none, queued := false, inFlight := [], answers := [], stage := 0 }

/-- The carriage controller's soft reset (R30). -/
def softResetCarriage (s : State) : State :=
  let s := s.onCar fun k =>
    { k with valid := false, traverse := .halted, cause := none, move := none, long := none, newer := none, plan := .empty, nextPlan := none }
  s.raise .traverse

/-- The time base's soft reset (R31, R34). -/
def softResetTime (s : State) : State := s.onTime fun t => { t with tick := 0, next := none }

/-- A receiver's soft reset: an abandoned transfer counts as settled (R35, R46). -/
def Receiver.softReset (r : Receiver) : Receiver :=
  { Receiver.reset with settled := r.transfer.getD r.settled }

/-- The receivers' soft reset (R46). -/
def softResetLinks (s : State) : State := s.onLinks fun l => ⟨l.upper.softReset, l.lower.softReset⟩

/-- The measurement engine's soft reset (R46, R63, R65, R86). -/
def softResetEngine (s : State) : State :=
  let strobe := s.time.strobe
  s.onEng fun e =>
    { Engine.reset with cal := e.cal, calGen := e.calGen, nextStrobe := strobe + 1 }

/-- The word write that a publication in flight has in progress is granted before the publication stops; where it is the READY write,
the publication is complete (R185, R190). A publication in flight always has one (log 40); that it follows the reset's card writes is
DEDUCED (log 39). -/
def grantPageWrite (s : State) : State :=
  match s.prof.publication with
  | none => s
  | some p => writePage p (s.withArbLast .profileEngine)

/-- The profile engine's soft reset: its table keeps its entries' number, a publication in flight stops (R86, R89, R107, R190), and a
choice of page under way is dropped with its copy (DESIGN CHOICE, log 39). -/
def softResetProfile (s : State) : State :=
  s.onProf fun p =>
    { clearFilters p.table.mass.length p with
      openScan := none
      edges := none
      nextSettings := none
      choice := none
      publication := none }

/-- The standardization unit's soft reset (R127). -/
def softResetStd (s : State) : State :=
  s.onStd fun u =>
    { u with dwell := none, card := none, due := false, count := 0, outcomes := ⟨.none, .none, .none⟩ }

/-- The sheet monitor's soft reset: SHEET is raised when the state was ON or OFF (R151). -/
def softResetSheet (s : State) : State :=
  (s.onSheet fun m => { SheetMonitor.reset with settings := m.settings }).raiseIf (s.sheet.state != .unknown) .sheet

/-- An entry at soft reset, its condition already given: NORMAL, then the appearance of a present condition (R167). -/
def AlarmEntry.softReset (keep : Bool) (e : AlarmEntry) : AlarmEntry :=
  let e := { e with state := .normal, remaining := 0, condition := keep && e.condition }
  if e.enabled && e.condition then e.appear else e

/-- The alarm table after a soft reset: ACCESS keeps its condition, every other is gone (R167). -/
def AlarmUnit.softEntries (a : AlarmUnit) : Vector AlarmEntry 12 :=
  a.entries.mapFinIdx fun i e _ => e.softReset (i == (kindIdx .access).val)

/-- The alarm unit's soft reset: ALARM is raised when some entry's state differs after it (R167). -/
def softResetAlarm (s : State) : State :=
  let entries := s.alarm.softEntries
  let changed := s.alarm.entries.toList.map (·.state) != entries.toList.map (·.state)
  (s.onAlarm fun a => { a with entries := entries, silence := false }).raiseIf changed .alarm

/-- Port A's soft reset (R194). -/
def softResetPortA (s : State) : State := s.onPortA fun a => { a with latch := none, capture := none }

/-- The blocks' soft resets; the export link's follows those of the profile engine and the sheet monitor (R179, R200). -/
def softResetBlocks (s : State) : State :=
  let s := softResetEngine (softResetLinks (softResetTime (softResetCarriage s)))
  let s := softResetAlarm (softResetSheet (softResetStd (softResetProfile s)))
  softResetExport ((softResetPortA s).withRefresh none)

/-- The notice mask a CONTROL write carries (R198). -/
def withMask (value : Half) (s : State) : State := { s with mask := value.setWidth 7 }

/-- SOFT_RESET: the mask, the cards, the page word in progress, then the blocks (R190, R198, R200, R213). -/
def execSoftReset (value : Half) (s : State) : Host.Outcome State Fault Refusal :=
  done (whenRunning s fun s => softResetBlocks (grantPageWrite (softResetOrders (withMask value s))))

/-! ## Register writes -/

/-- SET_NOTICE_MASK (R198). -/
def execSetNoticeMask (value : Half) (s : State) : Host.Outcome State Fault Refusal :=
  done (whenRunning s (withMask value))

/-- NOTICE_CLEAR: each flag whose bit is 1 is cleared (R198, R199). -/
def execNoticeClear (value : Half) (s : State) : Host.Outcome State Fault Refusal :=
  done (whenRunning s fun s => s.withNotices (s.notices &&& ~~~(value.setWidth 7)))

/-- NUDGE: a card service is requested, whichever half is written and with whatever value (R198, R208). -/
def execNudge (_high : Bool) (_value : Half) (s : State) : Host.Outcome State Fault Refusal :=
  done (whenRunning s requestService)

/-- REGISTER_WRITE_IGNORED: nothing changes (R198). -/
def execRegisterWriteIgnored (_target : IgnoredRegister) (_value : Half) (s : State) : Host.Outcome State Fault Refusal :=
  done s

end Sys2Proof.Machine
end

