-- ==== Sys2Proof/Machine/Clocked.lean ====
section
/-! DEFINITION. Events of the part's own clock: the service tick, the flash and horn half periods, the frames of the export link,
the ends of holdoffs, dwells, moves and publications, and the queued card service. An event that is not due changes nothing
(log 4). -/

namespace Sys2Proof.Machine

open Sys2Proof

/-! ## The work of a tick -/

/-- The counts of a tick: the tick count, the move timer and the dwell tick count (R8, R31, R116). -/
def countTick (s : State) : State :=
  let s := s.onTime fun t => { t with tick := t.tick + 1 }
  let s := s.onCar fun k => { k with move := k.move.map fun m => { m with timer := m.timer + 1 } }
  s.onStd fun u => { u with dwell := u.dwell.map fun d => { d with ticks := d.ticks + 1 } }

/-- The point readout: the point values replaced, the accumulators emptied, the MASS mean handed to the sheet monitor (R61,
R139). A traverse that has left the hold since the last tick leaves its sums to be read out at this one, as in the third tick of the
worked example of chapter 03 and not as in the last sentence of R61 (DESIGN CHOICE, log 36). -/
def readPoint (s : State) : State :=
  let v := pointValues s.eng.pointAcc
  countSheetOn v.mass (s.onEng fun e => { e with point := v, pointAcc := Acc.zero3 })

/-- The point readout and the sampling of BRK_IN, in the order given, the refresh never between them (R135, R139; DESIGN CHOICE, log 42). -/
def sheetTick (brkIn sampleFirst : Bool) (s : State) : State :=
  if sampleFirst then readPoint (sampleBreakLine brkIn s) else sampleBreakLine brkIn (readPoint s)

/-- Every entry in HOLDOFF loses 1 from its holdoff remaining (R157). -/
def countHoldoff (e : AlarmEntry) : AlarmEntry :=
  match e.state with
  | .holdoff => { e with remaining := e.remaining - 1 }
  | _ => e

def holdoffTick (s : State) : State := s.onAlarm fun a => a.mapEntries countHoldoff

/-! ## Ends that a tick brings -/

/-- The move timer has reached move_timeout (R8). -/
def timedOut (k : CarriageController) : Bool :=
  match k.move, k.frame with
  | some m, some f => decide (f.moveTimeout ≤ m.timer)
  | _, _ => false

/-- A move whose timer has reached move_timeout faults the traverse (R8). -/
def endTimedOut (s : State) : State := if timedOut s.car then enterFaulted .travelTimeout s else s

/-- An EXTERNAL break that is due is taken (R136). -/
def takeExternalBreak (s : State) : State :=
  if s.sheet.externalDue then takeBreak .external (s.onSheet fun m => { m with externalDue := false }) else s

/-- A sheet-on that is due is declared (R139, R141). One taken after a break of the same moment turns the sheet ON again, as R139 gives
and against the last sentence of R138 (DESIGN CHOICE, log 44). -/
def takeProbeSheetOn (s : State) : State :=
  if s.sheet.onDue && s.sheet.state == .off then declareSheetOn (s.onSheet fun m => { m with onDue := false }) else s

/-- An event that a tick has made due is taken; one that is not due changes nothing (log 4). -/
def takeTickEvent (s : State) (e : TickEvent) : State :=
  match e with
  | .moveTimeout => endTimedOut s
  | .dwellEnd => endDwell s
  | .externalBreak => takeExternalBreak s
  | .probeSheetOn => takeProbeSheetOn s

/-! ## The tick as a whole (R31) -/

/-- Work of the tick that is done when its flag says so. -/
def doIf (c : Bool) (f : State → State) (s : State) : State := if c then f s else s

/-- A pending time base setting becomes the setting in force (R34). -/
def applyTimebase (t : TimeBase) : TimeBase :=
  match t.next with
  | none => t
  | some (tc, sc) => { t with tickCode := tc, sampleCode := sc, next := none }

/-- The work of a tick that comes before the status block's values are taken, as its order says: holdoffs the last tick ran out have
ended, the counts, the blocks' work, a holdoff that runs out ending at once, then the events that come early (log 5, log 6).
DESIGN CHOICE (log 42): R31, R157 and R173 fix no order here. Holdoff counting that precedes the refresh always precedes the early
events (an appearance that one of them brings is not counted before the refresh), and an idle export link's cycle start always
follows them, so no copy made before a break is taken with both shown by the refresh. The sampling of BRK_IN and the point readout stand
on the same side of the refresh, where R31, R62 and R201 leave each of them free (DESIGN CHOICE, log 42). -/
def tickBefore (brkIn : Bool) (o : TickOrder) (s : State) : State :=
  let s := countTick (endHoldoffs s)
  let s := doIf o.refreshAfterPoint (sheetTick brkIn o.sampleFirst) s
  let s := doIf o.refreshAfterHoldoff (fun s => endHoldoffs (holdoffTick s)) s
  let s := o.early.foldl takeTickEvent s
  doIf o.refreshAfterExport tickExport s

/-- The work of a tick that comes after the status block's values are taken, with the card service request and the pending time base
setting (R31, R34, R208). DESIGN CHOICE (log 42): R31, R157 and R173 fix no order here. An event that no value of the operand takes
early is a command after the tick, so it always follows the holdoff counting and an idle export link's cycle start. The card service is
requested after the events taken early, so a slot whose card one of them answers is examined and not passed over; an event that is a
command after the tick follows the request. -/
def tickAfter (brkIn : Bool) (o : TickOrder) (s : State) : State :=
  let s := doIf (!o.refreshAfterPoint) (sheetTick brkIn o.sampleFirst) s
  let s := doIf (!o.refreshAfterHoldoff) holdoffTick s
  let s := doIf (!o.refreshAfterExport) tickExport s
  (requestService s).onTime applyTimebase

/-- The service tick: the status block's values are taken between the work its order puts before them and the rest (R31, R201). -/
def serviceTick (brkIn : Bool) (o : TickOrder) (s : State) : State :=
  tickAfter brkIn o (takeRefresh (tickBefore brkIn o s))

/-- SERVICE_TICK (R31). -/
def execServiceTick (brkIn : Bool) (o : TickOrder) (s : State) : Host.Outcome State Fault Refusal :=
  done (whenRunning s (serviceTick brkIn o))

/-- QUEUED_CARD_SERVICE: a service has ended with the queued flag set (R208). -/
def execQueuedCardService (s : State) : Host.Outcome State Fault Refusal := done (whenRunning s startQueued)

/-! ## The ends as commands of their own -/

/-- MOVE_TIMEOUT (R8). -/
def execMoveTimeout (s : State) : Host.Outcome State Fault Refusal := done (whenRunning s endTimedOut)

/-- DWELL_END (R116). -/
def execDwellEnd (s : State) : Host.Outcome State Fault Refusal := done (whenRunning s endDwell)

/-- HOLDOFF_END of a kind (R157). -/
def execHoldoffEnd (k : AlarmKind) (s : State) : Host.Outcome State Fault Refusal := done (whenRunning s (endHoldoff k))

/-- EXTERNAL_BREAK (R136). -/
def execExternalBreak (s : State) : Host.Outcome State Fault Refusal := done (whenRunning s takeExternalBreak)

/-- PROBE_SHEET_ON (R139, R141). -/
def execProbeSheetOn (s : State) : Host.Outcome State Fault Refusal := done (whenRunning s takeProbeSheetOn)

/-! ## Annunciator dividers -/

/-- FLASH_HALF: the flash divider's other half begins (R161). -/
def execFlashHalf (s : State) : Host.Outcome State Fault Refusal :=
  done (whenRunning s fun s => s.onAlarm fun a => { a with flashOn := !a.flashOn })

/-- HORN_HALF_PERIOD: HORN changes level while it sounds (R164). -/
def execHornHalfPeriod (s : State) : Host.Outcome State Fault Refusal :=
  done (whenRunning s fun s =>
    if s.alarm.sounding then { s with pins := { s.pins with horn := !s.pins.horn } } else s)

/-! ## Export frames and publications -/

/-- EXPORT_FRAME_START (R168, R174). -/
def execExportFrameStart (s : State) : Host.Outcome State Fault Refusal := done (whenRunning s frameStart)

/-- EXPORT_FRAME_END (R174, R179). -/
def execExportFrameEnd (s : State) : Host.Outcome State Fault Refusal := done (whenRunning s frameEnd)

/-- The READY write is the only access a publication has left (R185). -/
def readyToComplete (p : Option Publication) : Bool :=
  match p with
  | none => false
  | some p => decide (Config.pageLastWord < p.next)

/-- PUBLICATION_COMPLETE: the profile engine's turn comes and READY is written (R185). -/
def execPublicationComplete (s : State) : Host.Outcome State Fault Refusal :=
  done (whenRunning s fun s =>
    if readyToComplete s.prof.publication then grantTo .profileEngine (waitTurn .profileEngine s) else s)

end Sys2Proof.Machine
end

