-- ==== Sys2Proof/Machine/Samples.lean ====
section
/-! DEFINITION. Events of the sample path: the strobe, the head link transfers, the forming of a sample record and its routing, and
the SAMPLE break (R4, R32, R35 to R46, R57 to R60, R134). -/

namespace Sys2Proof.Machine

open Sys2Proof

/-! ## Strobe -/

/-- What the carriage controller captures at a strobe (R4). -/
def capture (s : State) : Capture :=
  { strobe := s.time.strobe, pos := s.car.axis.upper.pos, skew := skew s, dir := moveDirection s.car }

/-- A transfer begins on a link (R32, R35). -/
def Receiver.begin (k : Word) (r : Receiver) : Receiver := { r with transfer := some k }

/-- The sample strobe (R32). -/
def strobe (s : State) : State :=
  let s := s.onTime fun t => { t with strobe := t.strobe + 1 }
  let c := capture s
  let s := s.onEng fun e => { e with captures := e.captures ++ [c] }
  s.onLinks fun l => ⟨l.upper.begin c.strobe, l.lower.begin c.strobe⟩

/-- SAMPLE_STROBE (R32). -/
def execSampleStrobe (s : State) : Host.Outcome State Fault Refusal := done (whenRunning s strobe)

/-! ## Head link transfers -/

/-- The link a frame arrives on. -/
def frameBeam : HeadFrame → Beam
  | .upper .. => .upper
  | .lower .. => .lower

/-- The bytes of a frame in their order on the link (02, head link frames). -/
def frameBytes : HeadFrame → List Byte
  | .upper st mh ml wh wl c k => [st, mh, ml, wh, wl, c, k]
  | .lower st ch cl c k => [st, ch, cl, c, k]

/-- The frame count a frame carries. -/
def frameCount : HeadFrame → Byte
  | .upper _ _ _ _ _ c _ => c
  | .lower _ _ _ c _ => c

/-- The 8-bit sum of all bytes of an intact frame is 0xFF (02). -/
def frameIntact (f : HeadFrame) : Bool := (frameBytes f).foldl (· + ·) 0 == 0xFF

/-- The frame as the buffer holds it (R36). -/
def heldFrame (k : Word) : HeadFrame → HeldFrame
  | .upper st mh ml wh wl _ _ => ⟨k, st, mh ++ ml, wh ++ wl⟩
  | .lower st ch cl _ _ => ⟨k, st, ch ++ cl, 0⟩

/-- A bad frame counted (R38). -/
def Receiver.miss (e : LinkError) (r : Receiver) : Receiver := { r with bad := bump255 r.bad, lastError := e }

/-- The receiver judges the frame of strobe `k`: OVERRUN, CHECK, SEQUENCE or good (R37, R38, R43). -/
def Receiver.judge (k : Word) (f : HeadFrame) (r : Receiver) : Receiver :=
  let r := { r with transfer := none, settled := k }
  if Config.linkSlots ≤ r.slots.length then { r.miss .overrun with lossLimit := some k }
  else if !frameIntact f then r.miss .check
  else if frameCount f != k.setWidth 8 then r.miss .sequence
  else { r with bad := 0, slots := r.slots ++ [heldFrame k f] }

/-- HEAD_LINK is present while either count is 8 or more (R38). -/
def headLinkBad (l : PerBeam Receiver) : Bool :=
  decide (Config.headLinkBad ≤ l.upper.bad) || decide (Config.headLinkBad ≤ l.lower.bad)

/-- A transfer completes on the link of the frame (R35). -/
def completeTransfer (f : HeadFrame) (s : State) : State :=
  match (s.links.get (frameBeam f)).transfer with
  | none => s
  | some k =>
    let s := s.onLinks fun l => l.set (frameBeam f) ((l.get (frameBeam f)).judge k f)
    giveCondition .headLink (headLinkBad s.links) s

/-- HEAD_LINK_TRANSFER_COMPLETE (R35). -/
def execHeadLinkTransferComplete (f : HeadFrame) (s : State) : Host.Outcome State Fault Refusal :=
  done (whenRunning s (completeTransfer f))

/-! ## Sample records -/

/-- The frame of strobe `k` when it is the oldest held (R39). -/
def Receiver.frameFor (k : Word) (r : Receiver) : Option HeldFrame :=
  match r.slots with
  | [] => none
  | f :: _ => if f.strobe = k then some f else none

/-- The record of strobe `k` is at or before the loss limit (R43). -/
def Receiver.loses (k : Word) (r : Receiver) : Bool :=
  match r.lossLimit with
  | none => false
  | some l => atOrBehind k l

/-- The receiver once the record of strobe `k` has been begun: its frame removed, a loss limit of `k` absent (R39, R43). -/
def Receiver.release (k : Word) (r : Receiver) : Receiver :=
  { r with
    slots := if (r.frameFor k).isSome then r.slots.tail else r.slots
    lossLimit := if r.lossLimit = some k then none else r.lossLimit }

/-- A reading of a frame, present when its READY bit is set (R41). -/
def reading (f : Option HeldFrame) (ready : Nat) (v : HeldFrame → Half) : Option Nat :=
  match f with
  | none => none
  | some f => if f.status.getLsbD ready then some (v f).toNat else none

/-- The skew test for caliper under the frame record in force (R42). -/
def skewPasses (f : Option FrameRecord) (skew : Int) : Bool :=
  match f with
  | none => true
  | some f => decide (skew.natAbs ≤ f.skewCal)

/-- The raw readings of the record of a capture (R41, R42). -/
def rawReadings (s : State) (c : Capture) : Per3 (Option Nat) :=
  let u := s.links.upper.frameFor c.strobe
  { mass := reading u 7 (·.first)
    water := reading u 6 (·.second)
    cal := if skewPasses s.car.frame c.skew then reading (s.links.lower.frameFor c.strobe) 7 (·.first) else none }

/-- The sample record of a capture, its readings converted (R40, R43, R53). -/
def sampleRecord (s : State) (c : Capture) : SampleRecord :=
  let raw := rawReadings s c
  { strobe := c.strobe, pos := c.pos, skew := c.skew, dir := c.dir, raw := raw, value := convertRecord s.eng.cal raw,
    loss := s.links.upper.loses c.strobe || s.links.lower.loses c.strobe }

/-- Both links have settled a strobe (R39). -/
def bothSettled (l : PerBeam Receiver) (k : Word) : Bool := atOrBehind k l.upper.settled && atOrBehind k l.lower.settled

/-- The record begun next: its capture, once both links have settled it, while no record is being formed, no SAMPLE break is due
and no dwell readout is due (R39, R116, R134). -/
def nextCapture (s : State) : Option Capture :=
  if s.eng.forming.isNone && !s.sheet.sampleDue && !dwellEnds s && bothSettled s.links s.eng.nextStrobe then
    s.eng.captures.find? fun c => c.strobe == s.eng.nextStrobe
  else none

/-- A record added to the dwell accumulators: its raw readings (R58, R115). -/
def addToDwell (r : SampleRecord) (s : State) : State :=
  s.onStd fun u => { u with dwell := u.dwell.map fun d => { d with acc := addRecord d.acc r.raw } }

/-- A record added to the point accumulators: its converted values (R60). -/
def addToPoint (r : SampleRecord) (s : State) : State :=
  s.onEng fun e => { e with pointAcc := addRecord e.pointAcc r.value }

/-- A record routed by the traverse state (R57). -/
def routeRecord (r : SampleRecord) (s : State) : State :=
  match s.car.traverse with
  | .scanning _ => binRecord r s
  | .standardizing _ => addToDwell r s
  | .singlePoint _ => addToPoint r s
  | .probing true => addToPoint r s
  | .probing false => s
  | .halted => s
  | .homing _ => s
  | .parked _ => s
  | .positioning _ => s
  | .breakPark _ => s
  | .faulted => s

/-- The record of a capture is begun, judged and routed (R39, R53, R57, R133). -/
def formRecord (c : Capture) (s : State) : State :=
  let r := sampleRecord s c
  let s := s.onLinks fun l => ⟨l.upper.release c.strobe, l.lower.release c.strobe⟩
  let s := s.onEng fun e =>
    { e with forming := some r, captures := e.captures.filter fun d => !(d.strobe == c.strobe) }
  routeRecord r (judgeRecord r s)

/-- FORM_SAMPLE_RECORD (R39). -/
def execFormSampleRecord (s : State) : Host.Outcome State Fault Refusal :=
  done (whenRunning s fun s =>
    match nextCapture s with
    | none => s
    | some c => formRecord c s)

/-- RECORD_TAKEN: every block the record was routed to has taken it (R39). -/
def execRecordTaken (s : State) : Host.Outcome State Fault Refusal :=
  done (whenRunning s fun s =>
    match s.eng.forming with
    | none => s
    | some _ => s.onEng fun e => { e with forming := none, nextStrobe := e.nextStrobe + 1 })

/-- A SAMPLE break that is due is taken; while the sheet is OFF it only sets the low-run counter to 0 (R134). -/
def takeSampleBreak (s : State) : State :=
  let s := s.onSheet fun m => { m with sampleDue := false }
  if s.sheet.state = .off then s.onSheet fun m => { m with lowRun := 0 } else takeBreak .sample s

/-- SAMPLE_BREAK: due once the record that brought the count to break_run has been taken (R134). -/
def execSampleBreak (s : State) : Host.Outcome State Fault Refusal :=
  done (whenRunning s fun s => if sampleBreakDue s then takeSampleBreak s else s)

end Sys2Proof.Machine
end

