-- ==== Sys2Proof/Machine/FrameLines.lean ====
section
/-! DEFINITION. Events of the frame's lines: encoder edges, home and limit switches, FRAME_OK and DRV_OK (R3, R14, R25 to R27). The
input levels are the frame's own and are followed in every phase (log 24). -/

namespace Sys2Proof.Machine

open Sys2Proof

/-- A carriage's input levels changed. -/
def onInput (b : Beam) (f : DriveInputs → DriveInputs) (s : State) : State :=
  s.onInputs fun p => p.set b (f (p.get b))

/-- While RST is low an event changes nothing but the level it carries; after it the part follows the frame, in the start-up
clear as well (R3, log 27). -/
def whenReleased (s : State) (f : State → State) : State :=
  match s.phase with
  | .held => s
  | _ => f s

/-- One encoder edge of a carriage: the accumulator moves, and a change of the count is a position event (R3, R10). -/
def encoderEdge (b : Beam) (d : Direction) (s : State) : State :=
  let a := (s.car.axis.get b).edge (prescaler s.car) d
  let moved := a.pos != (s.car.axis.get b).pos
  let s := s.onCar fun k => { k with axis := k.axis.set b a }
  if moved then positionEvent b s else s

/-- QUADRATURE_EDGE (R3). -/
def execQuadratureEdge (b : Beam) (d : Direction) (s : State) : Host.Outcome State Fault Refusal :=
  done (whenReleased s (encoderEdge b d))

/-- The carriage seeks its home switch: HOMING(SEEK), not yet zeroed (R14). -/
def seeking (b : Beam) (s : State) : Bool :=
  match s.car.move with
  | none => false
  | some m => m.purpose == .seek && !m.arrived.get b

/-- A seeking carriage is zeroed at its home switch and has arrived (R14). -/
def zeroSeeking (b : Beam) (s : State) : State :=
  let s := zeroAxis b s
  settle (s.onCar fun k => { k with move := k.move.map fun m => { m with arrived := m.arrived.set b true } })

/-- HOME of a carriage takes a level; becoming active while the carriage seeks, it zeroes it (R14). -/
def homeLine (b : Beam) (active : Bool) (s : State) : State :=
  let rises := active && !(s.inputs.get b).home
  let s := onInput b (fun i => { i with home := active }) s
  whenReleased s fun s => if rises && seeking b s then zeroSeeking b s else s

/-- HOME_SWITCH (R14). -/
def execHomeSwitch (b : Beam) (active : Bool) (s : State) : Host.Outcome State Fault Refusal :=
  done (homeLine b active s)

/-- A limit's level. -/
def DriveInputs.limit (i : DriveInputs) : Limit → Bool
  | .tending => i.limT
  | .drive => i.limD

/-- The inputs with a limit's level changed. -/
def DriveInputs.setLimit (i : DriveInputs) (l : Limit) (v : Bool) : DriveInputs :=
  match l with
  | .tending => { i with limT := v }
  | .drive => { i with limD := v }

/-- The direction in which a carriage moves toward a limit (R25). -/
def limitDirection : Limit → Direction
  | .tending => .reverse
  | .drive => .forward

/-- The carriage is in a move toward the limit and has not arrived (R25). -/
def movesToward (b : Beam) (l : Limit) (s : State) : Bool :=
  match s.car.move with
  | none => false
  | some m => m.dir == limitDirection l && !m.arrived.get b

/-- A limit of a carriage takes a level; becoming asserted while the carriage moves toward it, it faults the traverse (R25). -/
def limitLine (b : Beam) (l : Limit) (asserted : Bool) (s : State) : State :=
  let rises := asserted && !(s.inputs.get b).limit l
  let s := onInput b (fun i => i.setLimit l asserted) s
  whenReleased s fun s => if rises && movesToward b l s then enterFaulted .travelLimit s else s

/-- LIMIT_SWITCH (R25). -/
def execLimitSwitch (b : Beam) (l : Limit) (asserted : Bool) (s : State) : Host.Outcome State Fault Refusal :=
  done (limitLine b l asserted s)

/-- FRAME_OK takes a level; falling with the positions valid or in HOMING, it faults the traverse (R26). -/
def frameOkLine (low : Bool) (s : State) : State :=
  let falls := low && s.frameOk
  let s := { s with frameOk := !low }
  whenReleased s fun s => if falls && (s.car.valid || s.car.traverse.isHoming) then enterFaulted .interlock s else s

/-- FRAME_OK_LOW (R26). -/
def execFrameOkLow (low : Bool) (s : State) : Host.Outcome State Fault Refusal := done (frameOkLine low s)

/-- DRV_OK of a carriage takes a level; falling while its RUN is asserted, it faults the traverse (R27). -/
def drvOkLine (b : Beam) (low : Bool) (s : State) : State :=
  let falls := low && runLine s b
  let s := onInput b (fun i => { i with drvOk := !low }) s
  whenReleased s fun s => if falls then enterFaulted .driveNotReady s else s

/-- DRV_OK_LOW (R27). -/
def execDrvOkLow (b : Beam) (low : Bool) (s : State) : Host.Outcome State Fault Refusal := done (drvOkLine b low s)

end Sys2Proof.Machine
end

