-- ==== Sys2Proof/Machine/OrderCommands.lean ====
section
/-! DEFINITION. The orders as commands: each stands for a card that carries the order being taken from its slot (R209, R210,
log 9). What the owner does stands in Orders.lean. -/

namespace Sys2Proof.Machine

open Sys2Proof

/-- SET_FRAME (R1). -/
def execSetFrame (slot : Slot) (r : FrameRecord) (s : State) : Host.Outcome State Fault Refusal :=
  done (deliver slot (.setFrame r) s)

/-- HOME (R13). -/
def execHome (slot : Slot) (s : State) : Host.Outcome State Fault Refusal := done (deliver slot .home s)

/-- SCAN (R15). -/
def execScan (slot : Slot) (repeats : Nat) (s : State) : Host.Outcome State Fault Refusal :=
  done (deliver slot (.scan repeats) s)

/-- STOP with mode END (R21). -/
def execStopEnd (slot : Slot) (s : State) : Host.Outcome State Fault Refusal := done (deliver slot (.stop 0) s)

/-- STOP with mode NOW (R22). -/
def execStopNow (slot : Slot) (s : State) : Host.Outcome State Fault Refusal := done (deliver slot (.stop 1) s)

/-- MOVE_TO (R19). -/
def execMoveTo (slot : Slot) (target : Nat) (s : State) : Host.Outcome State Fault Refusal :=
  done (deliver slot (.moveTo target) s)

/-- PARK (R20). -/
def execPark (slot : Slot) (s : State) : Host.Outcome State Fault Refusal := done (deliver slot .park s)

/-- SET_TIMEBASE (R33). -/
def execSetTimebase (slot : Slot) (tickCode sampleCode : Nat) (s : State) : Host.Outcome State Fault Refusal :=
  done (deliver slot (.setTimebase tickCode sampleCode) s)

/-- SET_CAL (R48). -/
def execSetCal (slot : Slot) (channel : Nat) (v : CalValues) (s : State) : Host.Outcome State Fault Refusal :=
  done (deliver slot (.setCal channel v) s)

/-- SET_PROFILE (R88). -/
def execSetProfile (slot : Slot) (p : ProfileSettings) (s : State) : Host.Outcome State Fault Refusal :=
  done (deliver slot (.setProfile p) s)

/-- RESEED (R104). -/
def execReseed (slot : Slot) (s : State) : Host.Outcome State Fault Refusal := done (deliver slot .reseed s)

/-- STANDARDIZE (R112). -/
def execStandardize (slot : Slot) (s : State) : Host.Outcome State Fault Refusal := done (deliver slot .standardize s)

/-- SET_STD (R109). -/
def execSetStd (slot : Slot) (p : StdSettings) (s : State) : Host.Outcome State Fault Refusal :=
  done (deliver slot (.setStd p) s)

/-- SET_SHEET (R149). -/
def execSetSheet (slot : Slot) (p : SheetSettings) (s : State) : Host.Outcome State Fault Refusal :=
  done (deliver slot (.setSheet p) s)

/-- RESUME (R140). -/
def execResume (slot : Slot) (s : State) : Host.Outcome State Fault Refusal := done (deliver slot .resume s)

/-- SET_ALARM (R159). -/
def execSetAlarm (slot : Slot) (c : AlarmCard) (s : State) : Host.Outcome State Fault Refusal :=
  done (deliver slot (.setAlarm c) s)

/-- ACK_ALARMS (R158). -/
def execAckAlarms (slot : Slot) (mask : Nat) (s : State) : Host.Outcome State Fault Refusal :=
  done (deliver slot (.ackAlarms mask) s)

/-- SILENCE_HORN (R163). -/
def execSilenceHorn (slot : Slot) (s : State) : Host.Outcome State Fault Refusal := done (deliver slot .silenceHorn s)

/-- SET_HORN (R164). -/
def execSetHorn (slot : Slot) (tone : Nat) (s : State) : Host.Outcome State Fault Refusal :=
  done (deliver slot (.setHorn tone) s)

/-- SET_EXPORT (R169). -/
def execSetExport (slot : Slot) (c : ExportCard) (s : State) : Host.Outcome State Fault Refusal :=
  done (deliver slot (.setExport c) s)

/-- SET_GUARD (R205). -/
def execSetGuard (slot : Slot) (c : GuardCard) (s : State) : Host.Outcome State Fault Refusal :=
  done (deliver slot (.setGuard c) s)

/-- CLEAR_GUARD_FAULT (R206). -/
def execClearGuardFault (slot : Slot) (s : State) : Host.Outcome State Fault Refusal :=
  done (deliver slot .clearGuardFault s)

end Sys2Proof.Machine
end

