-- ==== Sys2Proof/Machine/Dispatch.lean ====
section
/-! DEFINITION. The dispatch of a command to its meaning: one arm per constructor of `Instr`. -/

namespace Sys2Proof.Machine

open Sys2Proof

def exec (i : Instr) (s : State) : Host.Outcome State Fault Refusal :=
  match i with
  | .pinReset => Sys2Proof.Machine.execPinReset s
  | .startUpClear => Sys2Proof.Machine.execStartUpClear s
  | .startUpClearEnd => Sys2Proof.Machine.execStartUpClearEnd s
  | .softReset value => Sys2Proof.Machine.execSoftReset value s
  | .setNoticeMask value => Sys2Proof.Machine.execSetNoticeMask value s
  | .noticeClear value => Sys2Proof.Machine.execNoticeClear value s
  | .nudge high value => Sys2Proof.Machine.execNudge high value s
  | .registerWriteIgnored target value => Sys2Proof.Machine.execRegisterWriteIgnored target value s
  | .portALowHalfWrite addr data => Sys2Proof.Machine.execPortALowHalfWrite addr data s
  | .portAHighHalfWrite addr data => Sys2Proof.Machine.execPortAHighHalfWrite addr data s
  | .portALowHalfRead addr => Sys2Proof.Machine.execPortALowHalfRead addr s
  | .portAHighHalfRead addr => Sys2Proof.Machine.execPortAHighHalfRead addr s
  | .portBRead bytes => Sys2Proof.Machine.execPortBRead bytes s
  | .portBWrite bytes => Sys2Proof.Machine.execPortBWrite bytes s
  | .portBOtherCommand command bytes => Sys2Proof.Machine.execPortBOtherCommand command bytes s
  | .arbiterGrant => Sys2Proof.Machine.execArbiterGrant s
  | .serviceTick brkIn order => Sys2Proof.Machine.execServiceTick brkIn order s
  | .queuedCardService => Sys2Proof.Machine.execQueuedCardService s
  | .sampleStrobe => Sys2Proof.Machine.execSampleStrobe s
  | .headLinkTransferComplete frame => Sys2Proof.Machine.execHeadLinkTransferComplete frame s
  | .formSampleRecord => Sys2Proof.Machine.execFormSampleRecord s
  | .recordTaken => Sys2Proof.Machine.execRecordTaken s
  | .sampleBreak => Sys2Proof.Machine.execSampleBreak s
  | .externalBreak => Sys2Proof.Machine.execExternalBreak s
  | .probeSheetOn => Sys2Proof.Machine.execProbeSheetOn s
  | .quadratureEdge c sense => Sys2Proof.Machine.execQuadratureEdge c sense s
  | .moveTimeout => Sys2Proof.Machine.execMoveTimeout s
  | .homeSwitch c active => Sys2Proof.Machine.execHomeSwitch c active s
  | .limitSwitch c limit asserted => Sys2Proof.Machine.execLimitSwitch c limit asserted s
  | .frameOkLow low => Sys2Proof.Machine.execFrameOkLow low s
  | .drvOkLow c low => Sys2Proof.Machine.execDrvOkLow c low s
  | .setFrame slot r => Sys2Proof.Machine.execSetFrame slot r s
  | .home slot => Sys2Proof.Machine.execHome slot s
  | .scan slot repeats => Sys2Proof.Machine.execScan slot repeats s
  | .stopEnd slot => Sys2Proof.Machine.execStopEnd slot s
  | .stopNow slot => Sys2Proof.Machine.execStopNow slot s
  | .moveTo slot target => Sys2Proof.Machine.execMoveTo slot target s
  | .park slot => Sys2Proof.Machine.execPark slot s
  | .setTimebase slot tickCode sampleCode => Sys2Proof.Machine.execSetTimebase slot tickCode sampleCode s
  | .setCal slot channel v => Sys2Proof.Machine.execSetCal slot channel v s
  | .setProfile slot p => Sys2Proof.Machine.execSetProfile slot p s
  | .reseed slot => Sys2Proof.Machine.execReseed slot s
  | .standardize slot => Sys2Proof.Machine.execStandardize slot s
  | .setStd slot p => Sys2Proof.Machine.execSetStd slot p s
  | .dwellEnd => Sys2Proof.Machine.execDwellEnd s
  | .setSheet slot p => Sys2Proof.Machine.execSetSheet slot p s
  | .resume slot => Sys2Proof.Machine.execResume slot s
  | .holdoffEnd kind => Sys2Proof.Machine.execHoldoffEnd kind s
  | .setAlarm slot c => Sys2Proof.Machine.execSetAlarm slot c s
  | .ackAlarms slot mask => Sys2Proof.Machine.execAckAlarms slot mask s
  | .silenceHorn slot => Sys2Proof.Machine.execSilenceHorn slot s
  | .setHorn slot tone => Sys2Proof.Machine.execSetHorn slot tone s
  | .flashHalf => Sys2Proof.Machine.execFlashHalf s
  | .hornHalfPeriod => Sys2Proof.Machine.execHornHalfPeriod s
  | .setExport slot c => Sys2Proof.Machine.execSetExport slot c s
  | .exportFrameEnd => Sys2Proof.Machine.execExportFrameEnd s
  | .publicationComplete => Sys2Proof.Machine.execPublicationComplete s
  | .setGuard slot c => Sys2Proof.Machine.execSetGuard slot c s
  | .clearGuardFault slot => Sys2Proof.Machine.execClearGuardFault slot s
  | .exportFrameStart => Sys2Proof.Machine.execExportFrameStart s
  | .portBTransferEnd => Sys2Proof.Machine.execPortBTransferEnd s

end Sys2Proof.Machine
end

