-- ==== Sys2Proof/Safety.lean ====
section
/-! DEFINITION. What counts as a safe state of the machine and what a command leaves, in the terms the statements use. -/

namespace Sys2Proof.Machine

open Sys2Proof

/-! ## The lines and the memory -/

/-- Every output line stands where the state puts it (R5, R161, R162, R164, R168, R199). -/
def Settled (s : State) : Prop := driveLines s = s

/-- The part serves: READY is 1, the output lines stand where the state puts them, the memory has its canonical form. -/
structure Serving (s : State) : Prop where
  running : s.phase = .running
  settled : Settled s
  memory : s.mem.wf = true

/-- The byte address lies in the word. -/
def inWord (w : WordIdx) (a : Nat) : Prop := wordAddr w ≤ a ∧ a < wordAddr w + 4

/-- What the output lines say, in the words of the rules: RUN, CREEP and DIR (R5), ATTN (R199), HORN (R162), LAMP (R161), XFRM (R168). -/
structure LinesAgree (s : State) : Prop where
  run : ∀ b, s.pins.run.get b = true ↔
    ∃ m, s.car.move = some m ∧ m.arrived.get b = false ∧ m.held.get b = false ∧ (s.inputs.get b).drvOk = true
  creep : ∀ b, s.pins.creep.get b = true ↔
    ∃ m, s.car.move = some m ∧ m.arrived.get b = false ∧ (m.purpose = .seek ∨ ∃ f, s.car.frame = some f ∧
      (((s.car.axis.get b).pos : Int) - m.target).natAbs ≤ f.approach)
  dir : ∀ b m, s.car.move = some m → (s.pins.dir.get b = true ↔ m.dir = .forward)
  attn : s.pins.attn = true ↔ ∃ n : Notice, s.notices &&& n.bit ≠ 0 ∧ s.mask &&& n.bit ≠ 0
  horn : s.pins.horn = true →
    s.alarm.silence = false ∧ ∃ k, (s.alarm.entry k).enabled ∧ (s.alarm.entry k).major ∧ (s.alarm.entry k).unacked
  dark : (∀ k, (s.alarm.entry k).state = .normal ∨ (s.alarm.entry k).state = .holdoff) → s.pins.lamp = false
  steady : (∀ k, (s.alarm.entry k).unacked = false) → (∃ k, (s.alarm.entry k).state = .activeAcked) → s.pins.lamp = true
  flashing : (∃ k, (s.alarm.entry k).unacked = true) → s.pins.lamp = s.alarm.flashOn
  xfrm : s.pins.xfrm = true ↔ ∃ d w, s.exp.sending = some d ∧ d.wire = some w

/-! ## The drives -/

/-- The traverse stands: no move can be in progress. -/
def Traverse.stands : Traverse → Bool
  | .halted => true
  | .parked _ => true
  | .standardizing _ => true
  | .faulted => true
  | _ => false

/-- Positions may be invalid in these states only (R4). -/
def Traverse.mayBeInvalid : Traverse → Bool
  | .halted => true
  | .homing _ => true
  | .faulted => true
  | _ => false

/-- What every step keeps about moves and drives. -/
structure DriveInv (s : State) : Prop where
  held : s.phase = .held → s.car.move = none
  standing : s.car.traverse.stands = true → s.car.move = none
  frameOk : s.car.move.isSome = true → s.frameOk = true
  aligned : s.car.move.isSome = true → skewBeyondFault s = false
  seeking : ∀ m, s.car.move = some m → m.purpose = .seek → s.car.valid = false ∧ s.car.traverse = .homing .seek
  moving : ∀ m, s.car.move = some m → m.purpose ≠ .seek → s.car.valid = true
  placed : s.car.valid = true ∨ s.car.traverse.mayBeInvalid = true
  dwelling : s.std.dwell.isSome = true → s.car.traverse.isStandardizing = true
  lines : ∀ b, s.pins.run.get b = runLine s b

/-- No drive runs where R5 forbids it: with positions valid, no RUN line is asserted beyond skew_fault, with FRAME_OK low, or in
HALTED or FAULTED. -/
def DriveLaw (s : State) : Prop :=
  s.car.valid = true → (∃ b, s.pins.run.get b = true) →
    skewBeyondFault s = false ∧ s.frameOk = true ∧ s.car.traverse ≠ .halted ∧ s.car.traverse ≠ .faulted

/-- Requesters between the one granted last and another, going round the ring of R193. -/
def ringDistance (last r : Requester) : Nat :=
  let place : Requester → Nat := fun
    | .portA => 0
    | .portB => 1
    | .orderUnit => 2
    | .profileEngine => 3
    | .statusRefresh => 4
  (place r + 4 - place last) % 5

/-! ## Cards -/

/-- A card may be taken from the slot at once: the part serves, the slot's card is not in flight, the order unit has neither an answer
to write nor a card to read, and no requester waits before it on the ring of R193. -/
structure CardFree (s : State) (slot : Slot) : Prop extends Serving s where
  notInFlight : inFlight s slot = false
  written : s.ord.answers = []
  notReading : ∀ left c, s.ord.service ≠ some ⟨left, some c⟩
  turn : ∀ r, ringDistance s.arbLast r < ringDistance s.arbLast .orderUnit → waits s r = false

/-- The order passes the order unit's checks in the slot (R210). -/
def Passes (slot : Slot) (o : Order) : Prop := cardRefusal slot (orderCode o) (some o) = none

/-- What the taking of a card leaves in memory and in the order unit (R208, R209). -/
structure CardTaken (s t : State) (slot : Slot) (o : Order) : Prop where
  taken : t.mem.readWord (cardWord slot 0) = cardTaken
  others : ∀ a, ¬inWord (cardWord slot 0) a → t.mem.read a = s.mem.read a
  inFlight : t.ord.inFlight = s.ord.inFlight ++ [⟨slot, orderCode o, orderOwner o⟩]
  lastSlot : t.ord.lastSlot = slot
  stage : t.ord.stage = s.ord.stage
  queued : t.ord.queued = s.ord.queued

/-- The card was taken and answers were decided: `new`, in their order. -/
structure CardAnswered (s t : State) (slot : Slot) (o : Order) (new : List Answer) : Prop extends CardTaken s t slot o where
  answers : t.ord.answers = s.ord.answers ++ new
  service : new ≠ [] → t.ord.service = s.ord.service

/-- An answer DONE or REFUSED with its result code and value, given by the order unit or by an owner at once. -/
def answerOf (slot : Slot) (c : ResultCode) (v : Word) : Answer := ⟨slot, c.isDone, c.value, v, true⟩

/-- An answer of a long order, given at its ending event. -/
def endedOf (slot : Slot) (c : ResultCode) (v : Word) : Answer := ⟨slot, c.isDone, c.value, v, false⟩

/-- The state with the traces that the taking of a card leaves taken back: what is compared in the frame of an order. -/
def withoutCard (s t : State) : State := { t with mem := s.mem, arbLast := s.arbLast, ord := s.ord }

/-- No internal access waits for the arbiter. -/
def Idle (s : State) : Prop := ∀ r, waits s r = false

/-- The access of one requester waits and no other does. -/
def OnlyWaits (s : State) (r : Requester) : Prop := waits s r = true ∧ ∀ q, q ≠ r → waits s q = false

/-! ## What the statements about orders and events share -/

/-- An order was taken from the slot, its owner decided the answers `new`, and beside what the taking leaves the state is `e`, the
lines following it. -/
structure OrderLeaves (s t : State) (slot : Slot) (o : Order) (new : List Answer) (e : State) : Prop
    extends CardAnswered s t slot o new where
  rest : withoutCard s t = driveLines e

/-- The answer a STANDARDIZE card that waits for a dwell gets when the traverse enters PARKED, FAULTED or HALTED (R113). -/
def waitingStd (s : State) : List Answer :=
  match s.std.dwell, s.std.card with
  | none, some slot => [endedOf slot .abandoned 0]
  | _, _ => []

/-- The answer a STANDARDIZE card gets when the dwell it is held for is abandoned (R123). -/
def dwellStd (s : State) : List Answer :=
  match s.std.dwell, s.std.card with
  | some _, some slot => [endedOf slot .abandoned 0]
  | _, _ => []

/-- The answer the carriage long order under way gets, when there is one. -/
def longAnswer (s : State) (c : ResultCode) (v : Word) : List Answer :=
  match s.car.underWay with
  | none => []
  | some l => [endedOf l.slot c v]

/-- Every entry but those named holds what it held. -/
def EntriesKept (s t : State) (changed : List AlarmKind) : Prop :=
  ∀ k, k ∉ changed → t.alarm.entry k = s.alarm.entry k

/-- The owner of a kind gave its condition as present or gone: the entry's level follows, and an enabled entry answers an appearance or a
going from each of its five states (R153, R156); a change of state raises ALARM (R160), and a MAJOR entry that enters ACTIVE_UNACKED
clears the silence flag (R162). -/
structure ConditionGiven (s t : State) (k : AlarmKind) (present : Bool) : Prop where
  level : (t.alarm.entry k).condition = present
  settings : (t.alarm.entry k).enabled = (s.alarm.entry k).enabled ∧ (t.alarm.entry k).major = (s.alarm.entry k).major ∧
    (t.alarm.entry k).holdoff = (s.alarm.entry k).holdoff ∧ (t.alarm.entry k).latching = (s.alarm.entry k).latching
  same : (s.alarm.entry k).condition = present → t.alarm.entry k = s.alarm.entry k
  disabled : (s.alarm.entry k).enabled = false →
    (t.alarm.entry k).state = (s.alarm.entry k).state ∧ (t.alarm.entry k).remaining = (s.alarm.entry k).remaining
  appears : (s.alarm.entry k).enabled = true → (s.alarm.entry k).condition = false → present = true →
    ((s.alarm.entry k).state = .normal → (s.alarm.entry k).holdoff ≠ 0 →
      (t.alarm.entry k).state = .holdoff ∧ (t.alarm.entry k).remaining = (s.alarm.entry k).holdoff) ∧
    ((s.alarm.entry k).state = .normal → (s.alarm.entry k).holdoff = 0 → (t.alarm.entry k).state = .activeUnacked) ∧
    ((s.alarm.entry k).state = .returnedUnacked → (t.alarm.entry k).state = .activeUnacked)
  goes : (s.alarm.entry k).enabled = true → (s.alarm.entry k).condition = true → present = false →
    ((s.alarm.entry k).state = .holdoff → (t.alarm.entry k).state = .normal ∧ (t.alarm.entry k).remaining = 0) ∧
    ((s.alarm.entry k).state = .activeUnacked →
      (t.alarm.entry k).state = if (s.alarm.entry k).latching then .returnedUnacked else .normal) ∧
    ((s.alarm.entry k).state = .activeAcked → (t.alarm.entry k).state = .normal)
  remaining : (t.alarm.entry k).state ≠ .holdoff → (s.alarm.entry k).state ≠ .holdoff →
    (t.alarm.entry k).remaining = (s.alarm.entry k).remaining
  changed : (t.alarm.entry k).state ≠ (s.alarm.entry k).state → t.notices &&& Notice.alarm.bit ≠ 0
  unchanged : (t.alarm.entry k).state = (s.alarm.entry k).state →
    t.notices &&& Notice.alarm.bit = s.notices &&& Notice.alarm.bit
  entered : (s.alarm.entry k).major = true → (t.alarm.entry k).state = .activeUnacked →
    (s.alarm.entry k).state ≠ .activeUnacked → t.alarm.silence = false
  kept : ¬((s.alarm.entry k).major = true ∧ (t.alarm.entry k).state = .activeUnacked ∧ (s.alarm.entry k).state ≠ .activeUnacked) →
    t.alarm.silence = s.alarm.silence
  others : EntriesKept s t [k]

/-- What a denied access leaves (R204); what it leaves in the port is stated beside it. -/
structure Denied (s t : State) (port : Port) (kind : AccessKind) (addr : Half) : Prop where
  latches : s.guard.fault = none → t.guard = { s.guard with fault := some ⟨port, kind, addr, false⟩ } ∧
    t.notices &&& Notice.guard.bit ≠ 0 ∧ ConditionGiven s t .access true
  marks : ∀ r, s.guard.fault = some r → t.guard = { s.guard with fault := some { r with multiple := true } } ∧
    t.notices = s.notices ∧ t.alarm = s.alarm ∧ t.pins = s.pins
  entries : ∀ k, k ≠ .access → t.alarm.entry k = s.alarm.entry k
  notices : ∀ n : Notice, n ≠ .guard → n ≠ .alarm → t.notices &&& n.bit = s.notices &&& n.bit
  drives : t.pins.run = s.pins.run ∧ t.pins.creep = s.pins.creep ∧ t.pins.dir = s.pins.dir ∧ t.pins.xfrm = s.pins.xfrm
  rest : { t with guard := s.guard, alarm := s.alarm, notices := s.notices, pins := s.pins, portA := s.portA,
                  portB := s.portB } = s

/-- The move start checks of R6 pass. -/
structure StartChecks (s : State) : Prop where
  frameOk : s.frameOk = true
  drives : s.inputs.upper.drvOk = true ∧ s.inputs.lower.drvOk = true
  limits : s.inputs.upper.limT = false ∧ s.inputs.upper.limD = false ∧ s.inputs.lower.limT = false ∧
    s.inputs.lower.limD = false
  aligned : ∀ f, s.car.frame = some f → (skew s).natAbs ≤ f.skewFault

/-- The checks of R6 in their order and the fault each gives, outside homing. -/
structure StartFails (s : State) (c : FaultCause) : Prop where
  interlock : c = .interlock → s.frameOk = false
  drive : c = .driveNotReady → s.frameOk = true ∧ (s.inputs.upper.drvOk = false ∨ s.inputs.lower.drvOk = false)
  limit : c = .travelLimit → s.frameOk = true ∧ (s.inputs.upper.drvOk = true ∧ s.inputs.lower.drvOk = true) ∧
    (s.inputs.upper.limT = true ∨ s.inputs.upper.limD = true ∨ s.inputs.lower.limT = true ∨ s.inputs.lower.limD = true)
  skew : c = .alignment → s.frameOk = true ∧ (s.inputs.upper.drvOk = true ∧ s.inputs.lower.drvOk = true) ∧
    (s.inputs.upper.limT = false ∧ s.inputs.upper.limD = false ∧ s.inputs.lower.limT = false ∧
      s.inputs.lower.limD = false) ∧ ∃ f, s.car.frame = some f ∧ f.skewFault < (Machine.skew s).natAbs
  timeout : c ≠ .travelTimeout

/-! ## The hand-offs of a close and the park decision -/

/-- The scan record a close reads: the bin still open is closed first, from its accumulator (R70, R76). -/
def shutScan (s : State) (sc : ScanRecord) : ScanRecord :=
  match s.eng.openBin with
  | none => sc
  | some b => { sc with results := sc.results.set b (binResult sc.settings.binMin (s.eng.accs.getD b BinAcc.zero)) }

/-- The bins a close has closed: those before it, the bin still open, and at a COMPLETE close every other bin of the map (R76). -/
def shutBins (s : State) (sc : ScanRecord) (how : Completion) : Nat :=
  let closed := s.eng.binsDone + if s.eng.openBin = none then 0 else 1
  if how = .complete then max closed sc.map.nbins else closed

/-- What every close leaves: the closed-scan table replaced, SAMPLE_LOSS given, and, with a bin to show, the choice of a page begun with
its copy, or the scan unpublished while a publication or a choice is under way (R76, R84, R91, R182 to R184; log 8). -/
structure ScanShut (s t : State) (sc : ScanRecord) (how : Completion) (r : ClosedScan) : Prop where
  record : r = closedScan how (shutScan s sc) (shutBins s sc how) s.time.tick
  closed : t.prof.closed = some r
  loss : (t.alarm.entry .sampleLoss).condition = sc.sampleLoss
  chosen : r.binsDone ≠ 0 → s.prof.publication = none → s.prof.choice = none → t.prof.publication = none ∧
    t.prof.choice = some ⟨{
      scan := r
      filtered := Per4.ofFn fun q => (t.prof.table.get q).map fun e => (e.f, decide (s.prof.settings.staleScans < e.age))
      mdf := t.prof.mdf
      filtersUpdated := t.prof.filtersUpdated
      reseeded := t.prof.reseeded
      streaks := t.sheet.streaks
      more := t.sheet.more
      sheet := t.sheet.state }, none⟩
  unpublished : r.binsDone ≠ 0 → s.prof.publication ≠ none ∨ s.prof.choice ≠ none → (t.alarm.entry .publish).condition = true ∧
    t.prof.publication = s.prof.publication ∧ t.prof.choice = s.prof.choice
  empty : r.binsDone = 0 → t.prof.publication = s.prof.publication ∧ t.prof.choice = s.prof.choice

/-- A close that updates no filter leaves the filtered table, the edges and the reseed flag, and clears its marks (R91, R93). -/
structure FiltersKept (s t : State) : Prop where
  table : t.prof.table = s.prof.table ∧ t.prof.mdf = s.prof.mdf ∧ t.prof.sourceScan = s.prof.sourceScan
  edges : t.prof.edges = s.prof.edges ∧ t.prof.reseed = s.prof.reseed
  marks : t.prof.filtersUpdated = false ∧ t.prof.reseeded = false

/-- An open scan was closed ABORTED (R75, R91). -/
structure ScanAborted (s t : State) (why : AbortReason) : Prop where
  gone : t.prof.openScan = none
  shut : ∀ sc, s.prof.openScan = some sc → ∃ r, ScanShut s t sc (.aborted why) r
  kept : s.prof.openScan ≠ none → FiltersKept s t

/-- Entry `i` of a profile is wet: updated by this close, not STALE, its F above the limit (R144). -/
def WetBin (es : List FilterEntry) (staleScans limit i : Nat) : Prop :=
  ∃ e, es[i]? = some e ∧ e.lastUpdate = true ∧ e.age ≤ staleScans ∧ (limit : Int) < e.f

/-- The streak is a whole run of wet bins, wide enough, its peak their largest F (R144). -/
structure WetRun (es : List FilterEntry) (staleScans limit minWidth : Nat) (x : Streak) : Prop where
  wide : 1 ≤ x.width ∧ minWidth ≤ x.width
  wet : ∀ i, x.start ≤ i → i < x.start + x.width → WetBin es staleScans limit i
  whole : ¬WetBin es staleScans limit (x.start + x.width) ∧ (x.start = 0 ∨ ¬WetBin es staleScans limit (x.start - 1))
  reached : ∃ i e, x.start ≤ i ∧ i < x.start + x.width ∧ es[i]? = some e ∧ e.f = x.peak
  highest : ∀ i e, x.start ≤ i → i < x.start + x.width → es[i]? = some e → e.f ≤ x.peak

/-- What a COMPLETE close with edges `a` and `z` leaves: the filters updated, reseeding where the flag is set, the edges record, the
confirmation of the sheet, the conditions of the scan and the streak list (R85, R92 to R96, R103, R131, R142 to R146). -/
structure EdgesFound (s t : State) (r : ClosedScan) (a z : Nat) : Prop where
  entries : ∀ (q : Profile) (i : Nat), (t.prof.table.get q)[i]? = ((s.prof.table.get q)[i]?).map fun e : FilterEntry =>
    e.update (if s.prof.reseed then 16 else match q with
      | .mass => s.prof.settings.kMass
      | .moist => s.prof.settings.kMoist
      | .dry => s.prof.settings.kDry
      | .cal => s.prof.settings.kCal) ((r.bins[i]?).bind fun x : BinResult => x.deviation.get q)
  mdf : ∀ q : Profile, t.prof.mdf.get q =
    updateMdf (if s.prof.reseed then 16 else s.prof.settings.kmd) (r.mdAverage.get q) (s.prof.mdf.get q)
  reseed : t.prof.reseed = true ↔ s.prof.reseed = true ∧ ∀ q : Profile, r.mdAverage.get q = none
  reseeded : t.prof.reseeded = true ↔ s.prof.reseed = true ∧ ∃ q : Profile, r.mdAverage.get q ≠ none
  marks : t.prof.filtersUpdated = true ∧ t.prof.sourceScan = r.number ∧ t.prof.edges = some ⟨a, z, r.number⟩
  sheet : { t.sheet with streaks := s.sheet.streaks, more := s.sheet.more } =
    { s.sheet with state := if s.sheet.state = .unknown then .on else s.sheet.state }
  confirmed : s.sheet.state = .unknown → t.notices &&& Notice.sheet.bit ≠ 0
  edge : (t.alarm.entry .edge).condition = true ↔ ∃ o, s.prof.edges = some o ∧
    (o.tend + s.sheet.settings.edgeStep < a ∨ z + s.sheet.settings.edgeStep < o.drive)
  streaks : ∃ runs : List Streak, runs.Pairwise (fun x y => x.start < y.start) ∧
    (∀ x, x ∈ runs ↔ WetRun t.prof.table.moist s.prof.settings.staleScans s.sheet.settings.streakLimit
      s.sheet.settings.streakMinWidth x) ∧
    t.sheet.streaks = runs.take 8 ∧ (t.sheet.more = true ↔ 8 < runs.length) ∧
    ((t.alarm.entry .wetStreak).condition = true ↔ runs ≠ [])
  weight : (t.alarm.entry .weight).condition = true ↔
    t.prof.mdf.mass < s.sheet.settings.massLo ∨ (s.sheet.settings.massHi : Int) < t.prof.mdf.mass
  moisture : (t.alarm.entry .moisture).condition = true ↔
    t.prof.mdf.moist < s.sheet.settings.moistLo ∨ (s.sheet.settings.moistHi : Int) < t.prof.mdf.moist

/-- What a COMPLETE close without edges leaves: no filter updated, and a NO_SHEET break unless the sheet is OFF (R91, R129, R137). -/
structure NoEdges (s t : State) : Prop where
  filters : FiltersKept s t
  off : s.sheet.state = .off → t.sheet = s.sheet
  brk : s.sheet.state ≠ .off → t.sheet = { s.sheet with
    state := .off
    source := .noSheet
    lowRun := 0
    onRun := 0
    streaks := []
    more := false
    onDue := false } ∧
    (t.alarm.entry .sheetBreak).condition = true ∧ (t.alarm.entry .edge).condition = false ∧
    (t.alarm.entry .wetStreak).condition = false ∧ t.notices &&& Notice.sheet.bit ≠ 0

/-- The open scan was closed COMPLETE, with all its hand-offs (R84, R91). -/
structure ScanCompleted (s t : State) (sc : ScanRecord) (r : ClosedScan) : Prop extends ScanShut s t sc .complete r where
  found : ∀ a z, r.edges = some (a, z) → EdgesFound s t r a z
  missing : r.edges = none → NoEdges s t

/-- The breaks that were due at the arrival of a TRAVERSE move, taken after it: the close has left `m`, and they leave `t` with the sheet
OFF and no request made (R129, R134, R136, R138). SAMPLE before EXTERNAL is the model's choice (log 44). The entries and the notices that
the close gave stand, but for ALIGNMENT and TRAVEL, which a start that fails afterwards gives (R28). -/
structure BreaksAfterArrival (m t : State) (sample : Bool) : Prop where
  already : m.sheet.state = .off → t.sheet = { m.sheet with
    lowRun := if sample then 0 else m.sheet.lowRun
    sampleDue := if sample then false else m.sheet.sampleDue
    externalDue := false } ∧ EntriesKept m t [.alignment, .travel]
  turned : m.sheet.state ≠ .off → t.sheet = { m.sheet with
      state := .off
      source := if sample then .sample else .external
      lowRun := 0
      onRun := 0
      streaks := []
      more := false
      onDue := false
      sampleDue := if sample then false else m.sheet.sampleDue
      externalDue := false } ∧
    (t.alarm.entry .edge).condition = false ∧ (t.alarm.entry .wetStreak).condition = false ∧
    (t.alarm.entry .sheetBreak).condition = true ∧ t.notices &&& Notice.sheet.bit ≠ 0
  entries : EntriesKept m t [.edge, .wetStreak, .sheetBreak, .alignment, .travel]
  notices : ∀ n : Notice, m.notices &&& n.bit ≠ 0 → t.notices &&& n.bit ≠ 0
  profile : t.prof = m.prof ∧ m.prof.openScan = none

/-- A STOP END or a STOP NOW is in flight. -/
def StopHeld (s : State) : Prop := ∃ l, s.car.underWay = some l ∧ (l.kind = .stopEnd ∨ l.kind = .stopNow)

/-- The park decision at a side (R18, R21, R24), for the state `z` it meets, with no move in progress: a held STOP answered, the sheet
OFF under PROBE and MANUAL, a plan that starts a traverse, a start that fails, a plan that is over. A move it starts is passed through
`hold`, the skew hold of the position event that brings the decision about (R10, log 29). A traverse that starts does not begin at or
beyond the park it goes to. -/
structure ParkDecided (z t : State) (side : Side) (f : FrameRecord) (hold : Move → Move) : Prop where
  stop : StopHeld z → t.car = { z.car with
      traverse := .parked side
      plan := .empty
      nextPlan := none
      long := none
      newer := none } ∧
    t.ord.answers = z.ord.answers ++ (if z.car.traverse = .parked side then [] else waitingStd z) ++ longAnswer z .ok 0
  manual : ¬StopHeld z → z.sheet.state = .off → z.sheet.settings.resumeMode ≠ 0 →
    t.car = { z.car with traverse := .parked side, plan := z.car.nextPlan.getD z.car.plan, nextPlan := none } ∧
    t.ord.answers = z.ord.answers ++ if z.car.traverse = .parked side then [] else waitingStd z
  probe : ¬StopHeld z → z.sheet.state = .off → z.sheet.settings.resumeMode = 0 → StartChecks z →
    let dir : Direction := if f.probePos < z.car.axis.upper.pos then .reverse else .forward
    let there : PerBeam Bool := ⟨atOrPast dir z.car.axis.upper.pos f.probePos, atOrPast dir z.car.axis.lower.pos f.probePos⟩
    t.ord.answers = z.ord.answers ∧ t.car = { z.car with
      plan := z.car.nextPlan.getD z.car.plan
      nextPlan := none
      traverse := .probing (there == ⟨true, true⟩)
      move := if there = ⟨true, true⟩ then none else some (hold ⟨.probe, f.probePos, dir, there, ⟨false, false⟩, 0⟩) }
  starts : ¬StopHeld z → z.sheet.state ≠ .off → StartChecks z → ∀ plan,
    (z.car.nextPlan.getD z.car.plan = .continuous ∧ plan = .continuous ∨
      ∃ n, z.car.nextPlan.getD z.car.plan = .remaining (n + 1) ∧ plan = .remaining n) →
    let u := z.car.axis.upper.pos
    let dir : Direction := if side = .tending then .forward else .reverse
    let far : Side := if side = .tending then .drive else .tending
    let target := if side = .tending then f.parkDrive else f.parkTend
    let count := if z.std.count < 255 then z.std.count + 1 else 255
    let settings := z.prof.nextSettings.getD z.prof.settings
    (if side = .tending then u < target else target < u) →
    t.ord.answers = z.ord.answers ∧
    t.car = { z.car with
      plan := plan
      nextPlan := none
      traverse := .scanning dir
      move := some (hold ⟨.traverse far, target, dir, ⟨false, atOrPast dir z.car.axis.lower.pos target⟩, ⟨false, false⟩, 0⟩) } ∧
    t.std.count = count ∧
    (t.std.due = true ↔ z.std.due = true ∨ z.std.settings.interval ≠ 0 ∧ z.std.settings.interval ≤ count) ∧
    t.prof.scanNumber = z.prof.scanNumber + 1 ∧ t.prof.settings = settings ∧ t.prof.nextSettings = none ∧
    t.prof.openScan = some ⟨z.prof.scanNumber + 1, dir, z.time.tick, t.eng.calGen, t.std.zeroGen,
      ⟨f.bin0Pos, f.binW, f.nbins⟩, settings, false, List.replicate f.nbins BinResult.notReached⟩ ∧
    t.eng.accs = List.replicate f.nbins BinAcc.zero ∧ t.eng.openBin = none ∧ t.eng.binsDone = 0
  fails : ¬StopHeld z → (z.sheet.state = .off ∧ z.sheet.settings.resumeMode = 0 ∨ z.sheet.state ≠ .off ∧
      (z.car.nextPlan.getD z.car.plan = .continuous ∨ ∃ n, z.car.nextPlan.getD z.car.plan = .remaining (n + 1))) →
    ∀ c, StartFails z c → (t.alarm.entry c.alarm).condition = true ∧ t.notices &&& Notice.traverse.bit ≠ 0 ∧
      t.prof.scanNumber = z.prof.scanNumber ∧ t.ord.answers = z.ord.answers ++ longAnswer z .abandoned 0 ++ waitingStd z ∧
      t.car = { z.car with
        traverse := .faulted
        cause := some c
        move := none
        long := none
        newer := none
        plan := .empty
        nextPlan := none }
  finished : ¬StopHeld z → z.sheet.state ≠ .off →
    (z.car.nextPlan.getD z.car.plan = .empty ∨ z.car.nextPlan.getD z.car.plan = .remaining 0) →
    t.car = { z.car with traverse := .parked side, plan := .empty, nextPlan := none } ∧
    t.ord.answers = z.ord.answers ++ if z.car.traverse = .parked side then [] else waitingStd z
  entered : t.car.traverse = .parked side → z.car.traverse ≠ .parked side → t.notices &&& Notice.traverse.bit ≠ 0

/-! ## Entry to FAULTED -/

/-- What an entry to FAULTED leaves (R12, R28): `s` is the state the fault meets, not FAULTED yet. -/
structure FaultEntered (s t : State) (c : FaultCause) : Prop where
  traverse : t.car = { s.car with
      traverse := .faulted
      cause := some c
      move := none
      long := none
      newer := none
      plan := .empty
      nextPlan := none }
  lines : ∀ b, t.pins.run.get b = false ∧ t.pins.creep.get b = false ∧ t.pins.dir.get b = s.pins.dir.get b
  notice : t.notices &&& Notice.traverse.bit ≠ 0
  condition : (t.alarm.entry c.alarm).condition = true
  aborted : s.car.traverse.isScanning = true → ScanAborted s t c.abortReason
  filters : t.prof.table = s.prof.table ∧ t.prof.mdf = s.prof.mdf ∧ t.prof.edges = s.prof.edges
  dwell : s.car.traverse.isStandardizing = true → t.std.dwell = none
  standing : { t.std with dwell := s.std.dwell, card := s.std.card } = s.std
  answers : t.ord.answers = s.ord.answers ++ (if s.car.traverse.isStandardizing = true then dwellStd s else []) ++
    longAnswer s .abandoned 0 ++ waitingStd s
  orders : { t.ord with answers := s.ord.answers } = s.ord
  rest : { t with car := s.car, pins := s.pins, notices := s.notices, alarm := s.alarm, prof := s.prof, eng := s.eng,
                  std := s.std, ord := s.ord, sheet := s.sheet } = s
  sheet : t.sheet = s.sheet
  kept : t.eng.cal = s.eng.cal ∧ t.eng.nextCal = s.eng.nextCal ∧ t.eng.point = s.eng.point ∧
    t.eng.captures = s.eng.captures ∧ t.eng.forming = s.eng.forming

/-- The parameters of an order lie in their ranges and pass their cross-checks, as chapter 12's table of orders gives them (R210, 3). -/
def AdmittedByTable : Order → Prop
  | .setFrame r => (8 ≤ r.binW ∧ r.binW ≤ 1024) ∧ (8 ≤ r.nbins ∧ r.nbins ≤ 480) ∧ r.approach ≤ 4095 ∧
      (r.prescaler = 1 ∨ r.prescaler = 4 ∨ r.prescaler = 16) ∧ (1 ≤ r.skewHold ∧ r.skewHold ≤ 255) ∧
      (r.skewHold + 1 ≤ r.skewFault ∧ r.skewFault ≤ 1023) ∧ (1 ≤ r.skewCal ∧ r.skewCal ≤ 255) ∧
      (1 ≤ r.moveTimeout ∧ r.moveTimeout ≤ 65535) ∧ r.parkTend < r.bin0Pos ∧ r.bin0Pos + r.nbins * r.binW ≤ r.parkDrive ∧
      r.parkDrive ≤ 65000 ∧ r.bin0Pos ≤ r.probePos ∧ r.probePos ≤ r.bin0Pos + r.nbins * r.binW - 1
  | .scan n => n ≤ 255
  | .stop m => m = 0 ∨ m = 1
  | .setTimebase t c => t ≤ 5 ∧ c ≤ 3 ∧ ¬(t = 0 ∧ c = 3)
  | .setCal c _ => c = 0 ∨ c = 1 ∨ c = 2
  | .setProfile p => (1 ≤ p.binMin ∧ p.binMin ≤ 255) ∧ p.edgeMargin ≤ 15 ∧ (1 ≤ p.kMass ∧ p.kMass ≤ 16) ∧
      (1 ≤ p.kMoist ∧ p.kMoist ≤ 16) ∧ (1 ≤ p.kDry ∧ p.kDry ≤ 16) ∧ (1 ≤ p.kCal ∧ p.kCal ≤ 16) ∧ (1 ≤ p.kmd ∧ p.kmd ≤ 16) ∧
      1 ≤ p.staleScans ∧ p.staleScans ≤ 255
  | .setStd p => p.interval ≤ 255 ∧ (1 ≤ p.dwell ∧ p.dwell ≤ 255) ∧ 1 ≤ p.min ∧ p.min ≤ 4095
  | .setSheet p => (1 ≤ p.breakRun ∧ p.breakRun ≤ 255) ∧ (1 ≤ p.brkDebounce ∧ p.brkDebounce ≤ 255) ∧
      (p.resumeMode = 0 ∨ p.resumeMode = 1) ∧ (1 ≤ p.sheetOnTicks ∧ p.sheetOnTicks ≤ 255) ∧ (1 ≤ p.edgeStep ∧ p.edgeStep ≤ 63) ∧
      p.streakLimit ≤ 10000 ∧ (1 ≤ p.streakMinWidth ∧ p.streakMinWidth ≤ 32) ∧ p.massLo ≤ p.massHi ∧ p.moistLo ≤ 10000 ∧
      p.moistLo ≤ p.moistHi ∧ p.moistHi ≤ 10000
  | .setAlarm c => c.kind ≤ 11 ∧ c.enable ≤ 1 ∧ c.severity ≤ 1 ∧ c.holdoff ≤ 255 ∧ c.latching ≤ 1
  | .ackAlarms m => m < 4096
  | .setHorn t => t ≤ 3
  | .setExport c => c.enable ≤ 1 ∧ (1 ≤ c.mask ∧ c.mask ≤ 15) ∧ c.div ≤ 255
  | .setGuard c => c.index ≤ 7 ∧ c.p1 % 256 = 0 ∧ c.p2 % 256 = 0xFF ∧ c.p1 ≤ c.p2 ∧ c.p3 ≤ 15 ∧ c.p4 ≤ 1 ∨ c.index = 8 ∧ c.p1 ≤ 1
  | .home => True
  | .moveTo _ => True
  | .park => True
  | .reseed => True
  | .standardize => True
  | .resume => True
  | .silenceHorn => True
  | .clearGuardFault => True

/-- The command that stands for a card with the order in a slot. -/
def orderCommand (slot : Slot) : Order → Instr
  | .setFrame r => .setFrame slot r
  | .home => .home slot
  | .scan n => .scan slot n
  | .stop m => if m = 0 then .stopEnd slot else .stopNow slot
  | .moveTo t => .moveTo slot t
  | .park => .park slot
  | .setTimebase t c => .setTimebase slot t c
  | .setCal c v => .setCal slot c v
  | .setProfile p => .setProfile slot p
  | .reseed => .reseed slot
  | .standardize => .standardize slot
  | .setStd p => .setStd slot p
  | .setSheet p => .setSheet slot p
  | .resume => .resume slot
  | .setAlarm c => .setAlarm slot c
  | .ackAlarms m => .ackAlarms slot m
  | .silenceHorn => .silenceHorn slot
  | .setHorn t => .setHorn slot t
  | .setExport c => .setExport slot c
  | .setGuard c => .setGuard slot c
  | .clearGuardFault => .clearGuardFault slot

/-- The parameter halfwords of a card with the order (12, table of orders). -/
def orderParams : Order → List Half
  | .setFrame r => [r.parkTend, r.parkDrive, r.bin0Pos, r.binW, r.nbins, r.probePos, r.approach, r.prescaler, r.skewHold,
      r.skewFault, r.skewCal, r.moveTimeout].map (BitVec.ofNat 16)
  | .home => []
  | .scan n => [BitVec.ofNat 16 n]
  | .stop m => [BitVec.ofNat 16 m]
  | .moveTo t => [BitVec.ofNat 16 t]
  | .park => []
  | .setTimebase t c => [BitVec.ofNat 16 t, BitVec.ofNat 16 c]
  | .setCal c v => [BitVec.ofNat 16 c, BitVec.ofNat 16 v.gain, BitVec.ofInt 16 v.offset, BitVec.ofNat 16 v.refZero,
      BitVec.ofNat 16 v.driftLimit, BitVec.ofNat 16 v.stepLimit]
  | .setProfile p => [p.binMin, p.edgeThreshold, p.edgeMargin, p.kMass, p.kMoist, p.kDry, p.kCal, p.kmd,
      p.staleScans].map (BitVec.ofNat 16)
  | .reseed => []
  | .standardize => []
  | .setStd p => [p.interval, p.dwell, p.min].map (BitVec.ofNat 16)
  | .setSheet p => [p.breakThreshold, p.breakRun, p.brkDebounce, p.resumeMode, p.sheetOnThreshold, p.sheetOnTicks,
      p.edgeStep, p.streakLimit, p.streakMinWidth, p.massLo, p.massHi, p.moistLo, p.moistHi].map (BitVec.ofNat 16)
  | .resume => []
  | .setAlarm c => [c.kind, c.enable, c.severity, c.holdoff, c.latching].map (BitVec.ofNat 16)
  | .ackAlarms m => [BitVec.ofNat 16 m]
  | .silenceHorn => []
  | .setHorn t => [BitVec.ofNat 16 t]
  | .setExport c => [c.enable, c.mask, c.div].map (BitVec.ofNat 16)
  | .setGuard c => [c.index, c.p1, c.p2, c.p3, c.p4].map (BitVec.ofNat 16)
  | .clearGuardFault => []

/-- Words 1 to 13 of a card with the order and a tag: parameter 2i stands in the low half of word 2 + i and parameter 2i + 1 in
its high half (12, the card). -/
def orderWords (tag : Half) (o : Order) : List Word :=
  joinHalves (BitVec.ofNat 16 (orderCode o)) tag ::
    (List.range 12).map fun i => joinHalves ((orderParams o).getD (2 * i) 0) ((orderParams o).getD (2 * i + 1) 0)

end Sys2Proof.Machine
end

