-- ==== Sys2Proof/Certificates/Slice0/Obligations.lean ====
section
/-! DEFINITION. The statements for the provers. Each name says what it states; OBLIGATIONS.json lists them with the rules they rest
on. -/

set_option Elab.async false

open Sys2Proof Sys2Proof.Machine

/-! ## The queue, the lines, the memory, the drives -/

/-- A step takes the command at the front of the queue and executes it on the state with the queue's rest; an empty queue
idles, which is the model's choice (log 3). -/
def Obligations.StepRunsTheFrontCommand : Prop :=
  (∀ (c : Instr) (rest : List Instr) (s : State),
    step { s with pending := c :: rest } = exec c { s with pending := rest }) ∧
  ∀ s : State, s.pending = [] → step s = .next s

/-- Every command answers a next state and leaves the queue as it is: no command is refused and none faults (log 23). -/
def Obligations.EveryCommandAnswersNext : Prop :=
  ∀ (c : Instr) (s : State), ∃ t, exec c s = .next t ∧ t.pending = s.pending

/-- After every command the output lines say what the rules say of them (R5, R161, R162, R168, R199). -/
def Obligations.OutputLinesFollowEveryCommand : Prop :=
  ∀ (c : Instr) (s t : State), exec c s = .next t → Settled t ∧ LinesAgree t

/-- Every step keeps the canonical form of the exchange memory. -/
def Obligations.MemoryStaysCanonical : Prop :=
  ∀ s t : State, s.mem.wf = true → step s = .next t → t.mem.wf = true

/-- Every step keeps the drive invariant, and with it the law of R5: no RUN line beyond skew_fault, with FRAME_OK low, or in
HALTED or FAULTED while positions are valid. -/
def Obligations.NoDriveRunsWhereForbidden : Prop :=
  ∀ s t : State, DriveInv s → step s = .next t → DriveInv t ∧ DriveLaw t

/-- Right after reset the output lines stand where the state puts them, the memory is canonical and reads 0 everywhere (that
an unlisted byte reads 0 is the model's choice, log 25), and the drive invariant holds. -/
def Obligations.ResetMeetsTheInvariants : Prop :=
  (Settled State.reset ∧ LinesAgree State.reset) ∧
  (State.reset.mem.wf = true ∧ ∀ a, State.reset.mem.read a = 0) ∧
  (DriveInv State.reset)

/-! ## Resets and start-up -/

/-- What pin reset leaves of the carriage controller, the guard and the export link, its three lines low, and that a soft
reset keeps the guard (R29, R207; of R180 what a pin reset leaves). -/
def Obligations.PinResetValues : Prop :=
  ∀ s : State, ∃ t, exec .pinReset s = .next t ∧ t.car.traverse = .halted ∧ t.car.frame = none ∧
    (∀ b, t.car.axis.get b = ⟨0, 0⟩) ∧ t.car.valid = false ∧ skew t = 0 ∧ t.car.cause = none ∧
    (∀ b, t.pins.run.get b = false ∧ t.pins.creep.get b = false ∧ t.pins.dir.get b = false) ∧ t.car.move = none ∧
    t.car.long = none ∧ t.car.newer = none ∧ t.car.plan = .empty ∧ t.car.nextPlan = none ∧ t.prof.scanNumber = 0 ∧
    (t.alarm.entry .alignment).condition = false ∧ (t.alarm.entry .travel).condition = false ∧ t.notices = 0 ∧
    t.guard.ranges.toList =
      [⟨0x0000, 0x00FF, ⟨true, false, true, false⟩, true⟩, ⟨0x0100, 0x03FF, ⟨true, true, true, false⟩, true⟩,
        ⟨0x0400, 0x04FF, ⟨true, true, true, true⟩, true⟩, ⟨0x1000, 0x5BFF, ⟨true, true, true, false⟩, true⟩,
        ⟨0x0000, 0x00FF, ⟨false, false, false, false⟩, false⟩, ⟨0x0000, 0x00FF, ⟨false, false, false, false⟩, false⟩,
        ⟨0x0000, 0x00FF, ⟨false, false, false, false⟩, false⟩, ⟨0x0000, 0x00FF, ⟨false, false, false, false⟩, false⟩] ∧
    t.guard.deny = false ∧ t.guard.fault = none ∧
    t.exp.settings = ⟨false, ⟨true, true, false, false⟩, 3⟩ ∧ t.exp.next = none ∧ t.exp.cycle = 0 ∧ t.exp.sending = none ∧
    t.pins.xfrm = false ∧ (∀ n h, exportLines t n h = (false, false)) ∧
    ∀ (r u : State) (v : Half), exec (.softReset v) r = .next u → u.guard = r.guard

/-- What pin reset leaves of the time base and the links (R31, R32, R45), the conversion and the calibration records (R47,
R51, R60, R62), the bins, the profile engine and the filtered table (R65, R86, R87, R89, R106, R172, R191), the
standardization unit (R126), the sheet monitor (R148, R150), the alarm unit (R152, R166), the notices, port A, the order
unit and the arbiter (R193, R194, R198, R213), and that it keeps the input levels, the memory and the queue and leaves all
else at its reset value: the model's choice of what the lines outside and the uncleared memory hold (log 26), and of the
half of the flash divider that does not run yet (log 47). -/
def Obligations.PinResetKeepsInputsAndMemory : Prop :=
  ∀ s : State, exec .pinReset s =
      .next { State.reset with inputs := s.inputs, frameOk := s.frameOk, mem := s.mem, pending := s.pending } ∧
    ∃ t, exec .pinReset s = .next t ∧ t.time = ⟨3, 2, none, 0, 0⟩ ∧
    (∀ b, (t.links.get b).slots = [] ∧ (t.links.get b).transfer = none ∧ (t.links.get b).bad = 0 ∧
      (t.links.get b).lastError = .none ∧ (t.links.get b).lossLimit = none) ∧
    t.eng.nextStrobe = 1 ∧ t.eng.forming = none ∧ t.eng.calGen = 0 ∧
    (∀ c : Channel, t.eng.cal.get c = ⟨⟨16384, 0, 0, 4000, 1000⟩, 0⟩ ∧ t.eng.nextCal.get c = none ∧
      t.eng.pointAcc.get c = ⟨0, 0⟩) ∧
    t.eng.point = ⟨none, none, none, none, none⟩ ∧ t.eng.accs = [] ∧ t.eng.openBin = none ∧ t.eng.binsDone = 0 ∧
    t.prof.settings = ⟨4, 1000, 2, 4, 4, 4, 4, 8, 10⟩ ∧ t.prof.nextSettings = none ∧ t.prof.openScan = none ∧
    t.prof.closed = none ∧ t.prof.edges = none ∧ (∀ q, t.prof.table.get q = [] ∧ t.prof.mdf.get q = 0) ∧ t.prof.reseed = true ∧
    t.prof.filtersUpdated = false ∧ t.prof.reseeded = false ∧ t.prof.sourceScan = 0 ∧ t.prof.choice = none ∧
    t.prof.publication = none ∧ t.prof.lastWritten1 = true ∧ t.prof.lastPublished = 0 ∧
    t.std.settings = ⟨20, 20, 100⟩ ∧ t.std.count = 0 ∧ t.std.due = false ∧ t.std.dwell = none ∧ t.std.zeroGen = 0 ∧
    (∀ c : Channel, t.std.outcomes.get c = .none) ∧ t.std.card = none ∧
    t.sheet.settings = ⟨500, 32, 3, 0, 1500, 50, 3, 150, 3, 0, 65535, 0, 10000⟩ ∧ t.sheet.state = .unknown ∧
    t.sheet.source = .none ∧ t.sheet.lowRun = 0 ∧ t.sheet.debounce = 0 ∧ t.sheet.onRun = 0 ∧ t.sheet.streaks = [] ∧
    t.sheet.more = false ∧
    (∀ k, t.alarm.entry k = {
      enabled := true
      major := decide (k ∈ [AlarmKind.sheetBreak, .weight, .moisture, .alignment, .travel, .headLink])
      holdoff := 0
      latching := true
      condition := false
      state := .normal
      remaining := 0 }) ∧
    t.alarm.silence = false ∧ t.alarm.tone = 1 ∧ t.pins.lamp = false ∧ t.pins.horn = false ∧
    t.notices = 0 ∧ t.mask = 0 ∧ t.pins.attn = false ∧ t.portA.latch = none ∧ t.portA.capture = none ∧
    t.ord.inFlight = [] ∧ t.ord.queued = false ∧ t.ord.service = none ∧ t.ord.lastSlot = 15 ∧ t.arbLast = .statusRefresh

/-- The start-up clear: it begins at word 0 when RST rises, each grant writes 0 into the next word, and its end leaves every
byte 0, READY 1 and the flash divider in an on half (R161, R192; word by word, log 22).
While the clear runs, port A reads return 0, port B shifts out 0, every write is dropped, memory, guard and notices stay,
and no access is checked (R192). -/
def Obligations.StartUpClearAndThePortsDuringIt : Prop :=
  (∀ s : State, Settled s → s.mem.wf = true →
    (s.phase = .held → exec .startUpClear s = .next { s with phase := .clearing 0 }) ∧
    (s.phase ≠ .held → exec .startUpClear s = .next s) ∧
    (∀ n, s.phase = .clearing n → ∃ t, exec .arbiterGrant s = .next t ∧ t.mem.readWord n = 0 ∧
      (∀ a, ¬inWord n a → t.mem.read a = s.mem.read a) ∧ (n.toNat < 16383 → t.phase = .clearing (n + 1)) ∧
      { t with mem := s.mem, phase := s.phase } = s) ∧
    (∀ n, s.phase = .clearing n → ∃ t, exec .startUpClearEnd s = .next t ∧ t.phase = .running ∧
      (∀ a, t.mem.read a = 0) ∧ t.alarm.flashOn = true ∧ readRegister t .ident true = 0x8001 ∧
      { t with mem := s.mem, phase := s.phase, alarm := s.alarm, pins := s.pins } = s ∧
      { t.alarm with flashOn := s.alarm.flashOn } = s.alarm ∧ { t.pins with lamp := s.pins.lamp } = s.pins) ∧
    ((∀ n, s.phase ≠ .clearing n) → exec .startUpClearEnd s = .next s)) ∧
  (∀ (s : State) (n : WordIdx) (a d v : Half) (h : Bool) (bytes : List Byte), Settled s → s.phase = .clearing n →
    exec (.portALowHalfWrite a d) s = .next s ∧ exec (.portAHighHalfWrite a d) s = .next s ∧
    exec (.portALowHalfRead a) s = .next { s with portA := { s.portA with data := 0 } } ∧
    exec (.portAHighHalfRead a) s = .next { s with portA := { s.portA with data := 0 } } ∧
    exec (.softReset v) s = .next s ∧ exec (.setNoticeMask v) s = .next s ∧ exec (.noticeClear v) s = .next s ∧
    exec (.nudge h v) s = .next s ∧
    (s.portB.transfer = none → ∀ c, c = .portBRead bytes ∨ c = .portBWrite bytes → ∃ t, exec c s = .next t ∧
      t.portB.out = List.replicate (bytes.length + 1) 0 ∧ { t with portB := s.portB } = s))

/-- A soft reset writes the answer of every card in flight: the one decided already where the order unit refused the card or
its owner answered it at once, else DONE/ABANDONED with value 0, also for a long order whose ending event has come; it
raises CARD, stops the service, empties the lists, and keeps the last slot taken (R213). The page word that a publication
in flight has in progress is granted after them, and no other word of memory changes (R190; that it follows the cards: log
39). That the order unit's own waiting access and a waiting word of a refresh are dropped is the model's choice (logs 45,
46). -/
def Obligations.SoftResetAnswersEveryCard : Prop :=
  ∀ (s : State) (v : Half), s.phase = .running → s.mem.wf = true → ∃ t, exec (.softReset v) s = .next t ∧
    (∀ c ∈ s.ord.inFlight,
      ((∀ a ∈ s.ord.answers, a.slot = c.slot → a.atOnce = false) →
        t.mem.readWord (cardWord c.slot 14) = 3 ∧ t.mem.readWord (cardWord c.slot 15) = 0 ∧
          t.mem.readWord (cardWord c.slot 0) = cardDone) ∧
      (∀ a, (s.ord.answers.find? fun b => b.slot == c.slot && b.atOnce) = some a →
        t.mem.readWord (cardWord c.slot 14) = BitVec.ofNat 32 a.code ∧ t.mem.readWord (cardWord c.slot 15) = a.value ∧
          t.mem.readWord (cardWord c.slot 0) = if a.done then cardDone else cardRefused)) ∧
    (let page : Publication → WordIdx := fun p => pageWordIdx p.page1 (if p.next ≤ 2431 then p.next else 0)
     (∀ b, (∀ c ∈ s.ord.inFlight, ∀ n, n = 0 ∨ n = 14 ∨ n = 15 → ¬inWord (cardWord c.slot n) b) →
      (∀ p, s.prof.publication = some p → ¬inWord (page p) b) → t.mem.read b = s.mem.read b) ∧
     (∀ p, s.prof.publication = some p → t.arbLast = .profileEngine ∧
      t.mem.readWord (page p) = if p.next ≤ 2431 then pageWord p.copy p.next else 1)) ∧
    (s.ord.inFlight ≠ [] → t.notices &&& Notice.card.bit ≠ 0) ∧
    t.ord = {
      lastSlot := s.ord.lastSlot
      service := none
      queued := false
      inFlight := []
      answers := []
      stage := 0 }

/-- What a soft reset leaves in each block: what it clears, what it sets and what it keeps, and the alarm table, whose ACCESS
entry takes the appearance of a condition that is still present (R30, R34, R46, R63, R86, R107, R127, R151, R167, R194,
R200, R201). An idle export link stays idle; one that sends keeps a frame in progress to its end with the copy discarded,
and in a gap between frames ends its cycle at once, which is a cycle start on the state the reset has left (R170, R179). A
publication in flight stops with the page written last and the last published scan number unchanged; one whose READY write
was the write in progress is complete, and that a choice of a page under way is dropped is the model's choice (R190; log
39). -/
def Obligations.SoftResetOfEveryBlock : Prop :=
  ∀ (s : State) (v : Half), s.phase = .running → ∃ t, exec (.softReset v) s = .next t ∧
    t.car = { s.car with valid := false, traverse := .halted, cause := none, move := none, long := none,
                         newer := none, plan := .empty, nextPlan := none } ∧
    t.notices &&& Notice.traverse.bit ≠ 0 ∧ t.pins.dir = s.pins.dir ∧
    (∀ b, t.pins.run.get b = false ∧ t.pins.creep.get b = false) ∧
    t.time = { s.time with tick := 0, next := none } ∧
    (∀ b, (t.links.get b).slots = [] ∧ (t.links.get b).transfer = none ∧ (t.links.get b).bad = 0 ∧
      (t.links.get b).lastError = .none ∧ (t.links.get b).lossLimit = none) ∧
    t.eng = { Engine.reset with cal := s.eng.cal, calGen := s.eng.calGen, nextStrobe := s.time.strobe + 1 } ∧
    t.prof.openScan = none ∧ t.prof.edges = none ∧ t.prof.nextSettings = none ∧ t.prof.publication = none ∧ t.prof.choice = none ∧
    t.prof.reseed = true ∧ t.prof.sourceScan = 0 ∧ t.prof.mdf = ⟨0, 0, 0, 0⟩ ∧
    (∀ q, t.prof.table.get q = List.replicate s.prof.table.mass.length ⟨0, 255, false⟩) ∧
    t.prof.settings = s.prof.settings ∧ t.prof.closed = s.prof.closed ∧ t.prof.scanNumber = s.prof.scanNumber ∧
    ((∀ p, s.prof.publication = some p → p.next ≤ 2431) → t.prof.lastWritten1 = s.prof.lastWritten1 ∧
      t.prof.lastPublished = s.prof.lastPublished ∧ t.notices &&& Notice.scan.bit = s.notices &&& Notice.scan.bit) ∧
    (∀ p, s.prof.publication = some p → 2431 < p.next → t.prof.lastWritten1 = p.page1 ∧
      t.prof.lastPublished = p.copy.scan.number ∧ t.notices &&& Notice.scan.bit ≠ 0) ∧
    t.prof.filtersUpdated = s.prof.filtersUpdated ∧ t.prof.reseeded = s.prof.reseeded ∧
    t.std = { s.std with dwell := none, card := none, due := false, count := 0, outcomes := ⟨.none, .none, .none⟩ } ∧
    t.sheet = { SheetMonitor.reset with settings := s.sheet.settings } ∧
    (s.sheet.state ≠ .unknown → t.notices &&& Notice.sheet.bit ≠ 0) ∧
    (∀ k, (t.alarm.entry k).enabled = (s.alarm.entry k).enabled ∧ (t.alarm.entry k).major = (s.alarm.entry k).major ∧
      (t.alarm.entry k).holdoff = (s.alarm.entry k).holdoff ∧ (t.alarm.entry k).latching = (s.alarm.entry k).latching) ∧
    (∀ k, k ≠ .access → (t.alarm.entry k).condition = false ∧ (t.alarm.entry k).state = .normal ∧
      (t.alarm.entry k).remaining = 0) ∧
    (let e := s.alarm.entry .access
     let n := t.alarm.entry .access
     n.condition = e.condition ∧
      (e.enabled = false ∨ e.condition = false → n.state = .normal ∧ n.remaining = 0) ∧
      (e.enabled = true → e.condition = true → e.holdoff = 0 → n.state = .activeUnacked ∧ n.remaining = 0) ∧
      (e.enabled = true → e.condition = true → e.holdoff ≠ 0 → n.state = .holdoff ∧ n.remaining = e.holdoff)) ∧
    ((∃ k, (t.alarm.entry k).state ≠ (s.alarm.entry k).state) → t.notices &&& Notice.alarm.bit ≠ 0) ∧
    t.alarm.silence = false ∧
    t.alarm.tone = s.alarm.tone ∧ t.portA = { s.portA with latch := none, capture := none } ∧ t.portB = s.portB ∧
    t.guard = s.guard ∧ t.refresh = none ∧ t.mask = v.setWidth 7 ∧ t.inputs = s.inputs ∧ t.frameOk = s.frameOk ∧
    t.exp.next = none ∧ t.exp.settings = s.exp.settings ∧
    (s.exp.sending = none → t.exp.sending = none ∧ t.exp.cycle = s.exp.cycle) ∧
    (∀ c blk n w, s.exp.sending = some ⟨c, blk, n, some w⟩ →
      t.exp.sending = some ⟨none, blk, n, some w⟩ ∧ t.exp.cycle = s.exp.cycle ∧ t.pins.xfrm = true) ∧
    (∀ c blk n, s.exp.sending = some ⟨c, blk, n, none⟩ → t.pins.xfrm = false ∧
      (s.exp.settings.enable = false ∨ s.car.frame = none → t.exp.sending = none ∧ t.exp.cycle = s.exp.cycle) ∧
      (∀ f, s.exp.settings.enable = true → s.car.frame = some f → t.exp.cycle = s.exp.cycle + 1 ∧ ∃ x : ExportCopy,
        t.exp.sending = some ⟨some x, 0, 0, none⟩ ∧ x.nbins = f.nbins ∧ x.sheet = .unknown ∧ x.source = 0 ∧
        x.blocks.map (fun y => y.profile) = [Profile.mass, .moist, .dry, .cal].filter (fun q => s.exp.settings.profiles.get q) ∧
        ∀ y ∈ x.blocks, y.mdf = 0 ∧
          y.bins = List.replicate s.prof.table.mass.length ⟨0, false, decide (s.prof.settings.staleScans < 255), false⟩))

/-! ## The register window and the notices -/

/-- A notice that is set stays set through every command but a pin reset and a NOTICE write of its own bit (R199). -/
def Obligations.NoticesFallOnlyToTheHost : Prop :=
  ∀ (c : Instr) (s t : State) (n : Notice), exec c s = .next t → s.notices &&& n.bit ≠ 0 → c ≠ .pinReset →
    (∀ v, c = .noticeClear v → (v.setWidth 7 : BitVec 7) &&& n.bit = 0) → t.notices &&& n.bit ≠ 0

/-- Register writes while the part serves: the mask is replaced and ATTN follows it, NOTICE flags written 1 are cleared and
the others stay, and the four ignored halves change nothing; address bits 3 and 2 choose the register of the window and
bit 1 its half, the other address bits are ignored, and each half reads as its table says (R194, R198, R199).
A NUDGE with no service running starts one at the slot after the last slot taken, passing over slots in flight unless
answers are still to be written (log 11); with a service running it queues one more. A queued service starts once none
runs (R208, log 28). -/
def Obligations.RegisterWritesWhileServing : Prop :=
  (∀ (s : State) (v : Half), Settled s → s.phase = .running →
    (∃ t, exec (.setNoticeMask v) s = .next t ∧ t.mask = v.setWidth 7 ∧
      (t.pins.attn = true ↔ ∃ n : Notice, s.notices &&& n.bit ≠ 0 ∧ (v.setWidth 7 : BitVec 7) &&& n.bit ≠ 0) ∧
      { t with mask := s.mask, pins := s.pins } = s ∧ { t.pins with attn := s.pins.attn } = s.pins) ∧
    (∃ t, exec (.noticeClear v) s = .next t ∧
      (∀ n : Notice, t.notices &&& n.bit = if (v.setWidth 7 : BitVec 7) &&& n.bit = 0 then s.notices &&& n.bit else 0) ∧
      (t.pins.attn = true ↔ ∃ n : Notice, t.notices &&& n.bit ≠ 0 ∧ s.mask &&& n.bit ≠ 0) ∧
      { t with notices := s.notices, pins := s.pins } = s ∧ { t.pins with attn := s.pins.attn } = s.pins) ∧
    (∀ r, exec (.registerWriteIgnored r v) s = .next s) ∧
    (∀ a : Half,
      (a &&& 0xE = 0x0 → windowWrite a v = .registerWriteIgnored .identLow v ∧ readWindow s a = 0x4810) ∧
      (a &&& 0xE = 0x2 → windowWrite a v = .registerWriteIgnored .identHigh v ∧ readWindow s a = 0x8001) ∧
      (a &&& 0xE = 0x4 → windowWrite a v = (if v &&& 0x8000 = 0 then .setNoticeMask v else .softReset v) ∧
        readWindow s a = s.mask.setWidth 16) ∧
      (a &&& 0xE = 0x6 → windowWrite a v = .registerWriteIgnored .controlHigh v ∧ readWindow s a = 0) ∧
      (a &&& 0xE = 0x8 → windowWrite a v = .noticeClear v ∧ readWindow s a = s.notices.setWidth 16) ∧
      (a &&& 0xE = 0xA → windowWrite a v = .registerWriteIgnored .noticeHigh v ∧ readWindow s a = 0) ∧
      (a &&& 0xE = 0xC → windowWrite a v = .nudge false v ∧ readWindow s a = 0) ∧
      (a &&& 0xE = 0xE → windowWrite a v = .nudge true v ∧ readWindow s a = 0))) ∧
  (∀ (s : State) (h : Bool) (v : Half), Settled s → s.phase = .running →
    let slots := (List.finRange 16).map fun i : Fin 16 => s.ord.lastSlot + 1 + i
    let left := if s.ord.answers = [] then slots.dropWhile fun x => s.ord.inFlight.any fun c => c.slot == x else slots
    let started : Option Service := if left = [] then none else some ⟨left, none⟩
    (s.ord.service = none → exec (.nudge h v) s = .next { s with ord := { s.ord with service := started } }) ∧
    (s.ord.service ≠ none → exec (.nudge h v) s = .next { s with ord := { s.ord with queued := true } }) ∧
    (s.ord.service = none → s.ord.queued = true → exec .queuedCardService s =
      .next { s with ord := { s.ord with service := started, queued := false } }) ∧
    (s.ord.service ≠ none ∨ s.ord.queued = false → exec .queuedCardService s = .next s))

/-! ## The ports and the guard -/

/-- The decision of the guard: at least one enabled range that covers the address grants the port and the kind, or no enabled
range covers it and the uncovered policy is ALLOW (R202). -/
def Obligations.GuardGrantsByRangesThenPolicy : Prop :=
  ∀ (g : AccessGuard) (p : Port) (k : AccessKind) (a : Nat),
    let bit : Permissions → Bool := fun q => match p, k with
      | .a, .read => q.aRead
      | .a, .write => q.aWrite
      | .b, .read => q.bRead
      | .b, .write => q.bWrite
    permits g p k a = true ↔
      (∃ i : Fin 8, g.ranges[i].enabled = true ∧ g.ranges[i].start ≤ a ∧ a ≤ g.ranges[i].last ∧ bit g.ranges[i].perms = true) ∨
      ((∀ i : Fin 8, g.ranges[i].enabled = true → a < g.ranges[i].start ∨ g.ranges[i].last < a) ∧ g.deny = false)

/-- A port A low-half write loads the latch where the guard grants it, else empties it and is reported; no memory changes
(R195).
A port A high-half write stores the whole word when the latch holds that word, else the high half alone, at a grant in the
port's turn; denied, it stores nothing and is reported. The latch is empty afterwards (R195). -/
def Obligations.PortAWritesThroughTheLatch : Prop :=
  (∀ (s : State) (addr data : Half), Settled s → s.phase = .running →
    let low := addr &&& 0xFFFC
    (permits s.guard .a .write low.toNat = true → exec (.portALowHalfWrite addr data) s =
      .next { s with portA := { s.portA with latch := some (addr.extractLsb' 2 14, data) } }) ∧
    (permits s.guard .a .write low.toNat = false → ∃ t, exec (.portALowHalfWrite addr data) s = .next t ∧
      t.portA = { s.portA with latch := none } ∧ t.portB = s.portB ∧ Denied s t .a .write low)) ∧
  (∀ (s : State) (addr data : Half), Serving s →
    let w : WordIdx := addr.extractLsb' 2 14
    let high := (addr &&& 0xFFFC) ||| 2
    let u := waitTurn .portA s
    (permits s.guard .a .write high.toNat = true → ∃ t, exec (.portAHighHalfWrite addr data) s = .next t ∧
      (∀ low, s.portA.latch = some (w, low) → t.mem.readWord w = joinHalves low data) ∧
      ((∀ low, s.portA.latch ≠ some (w, low)) → t.mem.readWord w = joinHalves (lowHalf (u.mem.readWord w)) data) ∧
      (∀ a, ¬inWord w a → t.mem.read a = u.mem.read a) ∧ t.portA = { s.portA with latch := none } ∧
      { t with mem := u.mem, portA := u.portA } = driveLines u) ∧
    (permits s.guard .a .write high.toNat = false → ∃ t, exec (.portAHighHalfWrite addr data) s = .next t ∧
      t.portA = { s.portA with latch := none } ∧ t.portB = s.portB ∧ Denied s t .a .write high))

/-- Port A reads: a low half comes from the word as one grant reads it and is captured whole; a high half comes from the
capture of its word without a grant, else from memory at one grant; denied reads return 0 (R196). -/
def Obligations.PortAReadsThroughTheCapture : Prop :=
  ∀ (s : State) (addr : Half), Settled s → s.phase = .running →
    let w : WordIdx := addr.extractLsb' 2 14
    let low := addr &&& 0xFFFC
    let high := (addr &&& 0xFFFC) ||| 2
    let u := waitTurn .portA s
    (permits s.guard .a .read low.toNat = true → ∃ t, exec (.portALowHalfRead addr) s = .next t ∧
      t.portA = { s.portA with capture := some (w, u.mem.readWord w), data := lowHalf (u.mem.readWord w) } ∧
      { t with portA := u.portA } = driveLines u) ∧
    (permits s.guard .a .read low.toNat = false → ∃ t, exec (.portALowHalfRead addr) s = .next t ∧
      t.portA = { s.portA with capture := none, data := 0 } ∧ t.portB = s.portB ∧ Denied s t .a .read low) ∧
    (permits s.guard .a .read high.toNat = true →
      (∀ v, s.portA.capture = some (w, v) → exec (.portAHighHalfRead addr) s =
        .next { s with portA := { s.portA with data := highHalf v } }) ∧
      ((∀ v, s.portA.capture ≠ some (w, v)) → ∃ t, exec (.portAHighHalfRead addr) s = .next t ∧
        t.portA = { s.portA with data := highHalf (u.mem.readWord w) } ∧ { t with portA := u.portA } = driveLines u)) ∧
    (permits s.guard .a .read high.toNat = false → ∃ t, exec (.portAHighHalfRead addr) s = .next t ∧
      t.portA = { s.portA with data := 0 } ∧ t.portB = s.portB ∧ Denied s t .a .read high)

/-- The capture of a low-half read stays through every command but another low-half read, a soft reset and a pin reset, so the
high-half read that follows returns the other half of the word as it stood at that one grant (R196). -/
def Obligations.CaptureOutlivesEveryWriter : Prop :=
  ∀ (c : Instr) (s t : State), exec c s = .next t → (∀ a, c ≠ .portALowHalfRead a) → (∀ v, c ≠ .softReset v) →
    c ≠ .pinReset → t.portA.capture = s.portA.capture

/-- A port command changes a byte only where the guard grants that port's write: for port A the half of the byte, whose low
half was checked when it was latched, for port B the word of the byte (R203). No internal access waits; a transfer in
progress stands at a word's address. -/
def Obligations.PortWritesOnlyWhereGranted : Prop :=
  ∀ (c : Instr) (s t : State) (a : Nat), Serving s → Idle s →
    (∀ x, s.portB.transfer = some x → x.addr &&& 3 = 0) →
    ((∃ x d, c = .portALowHalfWrite x d ∨ c = .portAHighHalfWrite x d) ∨
      (∃ x, c = .portALowHalfRead x ∨ c = .portAHighHalfRead x) ∨
      (∃ b bs, c = .portBRead bs ∨ c = .portBWrite bs ∨ c = .portBOtherCommand b bs) ∨ c = .portBTransferEnd) →
    exec c s = .next t → t.mem.read a ≠ s.mem.read a →
    (∃ x d, c = .portAHighHalfWrite x d ∧ permits s.guard .a .write ((x &&& 0xFFFC) ||| 2).toNat = true ∧
      (2 * (a / 2) = ((x &&& 0xFFFC) ||| 2).toNat ∨
        (2 * (a / 2) = (x &&& 0xFFFC).toNat ∧ ∃ low, s.portA.latch = some (x.extractLsb' 2 14, low)))) ∨
    (∃ bs, c = .portBWrite bs ∧ permits s.guard .b .write (4 * (a / 4)) = true)

/-- A port B READ: the command and address bytes shift out 0, then each word is read whole at one grant and leaves high byte
first, the address rising by 4; a denied word leaves as four zero bytes and is reported (R197). -/
def Obligations.PortBReadShiftsWordsOut : Prop :=
  ∀ (s : State) (hi lo x1 x2 x3 x4 : Byte) (w0 : Word) (addr : Half) (out : List Byte), Settled s → s.phase = .running →
    (s.portB.transfer = none → exec (.portBRead [hi, lo]) s =
      .next { s with portB := ⟨some ⟨.read, [hi, lo], (hi ++ lo) &&& 0xFFFC, 0, 0⟩, [0, 0, 0]⟩ }) ∧
    (s.portB = ⟨some ⟨.read, [hi, lo], addr, 0, w0⟩, out⟩ → permits s.guard .b .read addr.toNat = true →
      let u := waitTurn .portB s
      let v := u.mem.readWord (addr.extractLsb' 2 14)
      ∃ t, exec (.portBRead [x1, x2, x3, x4]) s = .next t ∧ { t with portB := u.portB } = driveLines u ∧
        t.portB = ⟨some ⟨.read, [hi, lo], addr + 4, 0, v⟩,
          out ++ [v.extractLsb' 24 8, v.extractLsb' 16 8, v.extractLsb' 8 8, v.extractLsb' 0 8]⟩) ∧
    (s.portB = ⟨some ⟨.read, [hi, lo], addr, 0, w0⟩, out⟩ → permits s.guard .b .read addr.toNat = false →
      ∃ t, exec (.portBRead [x1, x2, x3, x4]) s = .next t ∧ Denied s t .b .read addr ∧ t.portA = s.portA ∧
        t.portB = ⟨some ⟨.read, [hi, lo], addr + 4, 0, 0⟩, out ++ [0, 0, 0, 0]⟩)

/-- A port B WRITE: each word of four bytes, high byte first, is stored whole at one grant, or dropped and reported where
denied; the address rises by 4 and 0 leaves in every byte. Fewer than four bytes store nothing (R197).
A transfer with any other command byte changes nothing but what port B shifts out, which is 0 in every byte; a rising chip
select ends a transfer, and an uncompleted word is not stored (R197). -/
def Obligations.PortBWritesAndOtherTransfers : Prop :=
  (∀ (s : State) (hi lo x1 x2 x3 x4 : Byte) (w0 : Word) (addr : Half) (out : List Byte), Serving s →
    (s.portB.transfer = none → exec (.portBWrite [hi, lo]) s =
      .next { s with portB := ⟨some ⟨.write, [hi, lo], (hi ++ lo) &&& 0xFFFC, 0, 0⟩, [0, 0, 0]⟩ }) ∧
    (s.portB = ⟨some ⟨.write, [hi, lo], addr, 0, w0⟩, out⟩ →
      (∃ t, exec (.portBWrite [x1, x2, x3]) s = .next t ∧ { t with portB := s.portB } = s) ∧
      let z : State := { s with portB := ⟨some ⟨.write, [hi, lo], addr, 3, (w0.extractLsb' 0 8 ++ x1) ++ (x2 ++ x3)⟩,
        out ++ [0, 0, 0]⟩ }
      let u := waitTurn .portB z
      let w : WordIdx := addr.extractLsb' 2 14
      ∃ t, exec (.portBWrite [x1, x2, x3, x4]) s = .next t ∧
        t.portB.out = out ++ [0, 0, 0, 0] ∧
        (∃ v, t.portB.transfer = some ⟨.write, [hi, lo], addr + 4, 0, v⟩) ∧
        (permits s.guard .b .write addr.toNat = true → t.mem.readWord w = (x1 ++ x2) ++ (x3 ++ x4) ∧
          (∀ a, ¬inWord w a → t.mem.read a = u.mem.read a) ∧ { t with mem := u.mem, portB := u.portB } = driveLines u) ∧
        (permits s.guard .b .write addr.toNat = false → Denied s t .b .write addr ∧ t.portA = s.portA))) ∧
  (∀ (s : State) (b : Byte) (bs : List Byte), Settled s → s.phase = .running →
    (s.portB.transfer = none → ∃ t, exec (.portBOtherCommand b bs) s = .next t ∧ { t with portB := s.portB } = s ∧
      t.portB.out = List.replicate (bs.length + 1) 0 ∧ ∃ x, t.portB.transfer = some x ∧ x.kind = .other) ∧
    exec .portBTransferEnd s = .next { s with portB := { s.portB with transfer := none } })

/-! ## The arbiter and the internal writers -/

/-- The arbiter grants the waiting requester that comes first after the one granted last, going round the ring; with none
waiting it grants nothing (R193). A port that waits for its turn with no other requester waiting is granted at once. -/
def Obligations.ArbiterGrantsInRingOrder : Prop :=
  ∀ (s : State) (r : Requester), Settled s → s.phase = .running →
    (Idle s → exec .arbiterGrant s = .next s ∧ waitTurn r s = { s with arbLast := r }) ∧
    (waits s r = true → (∀ q, waits s q = true → ringDistance s.arbLast r ≤ ringDistance s.arbLast q) →
      exec .arbiterGrant s = .next (driveLines (access r { s with arbLast := r })))

/-- A status block refresh writes words 1 to 63 in rising order and word 0 last, one word a grant, and changes nothing else
(R201).
The choice of a page reads page 0's state word at one grant and page 1's at the next: with both free the page not written
last is chosen, with one free that page, with none the scan goes unpublished (R182, R183; which word is read first, log
8). A publication writes words 1 to 2431 of its page in rising order, one word a grant, then READY into word 0, which
completes it: page written last, last published number, PUBLISH gone, SCAN raised, idle (R185). What the words hold: the
header of R187, the bin records of R188, then zeros (MD_PRESENT bits, log 38). -/
def Obligations.InternalWritersWriteInOrder : Prop :=
  (∀ (s : State) (r : Refresh), Serving s → OnlyWaits s .statusRefresh → s.refresh = some r →
    ∃ t, exec .arbiterGrant s = .next t ∧ t.arbLast = .statusRefresh ∧
      { t with mem := s.mem, refresh := s.refresh, arbLast := s.arbLast } = s ∧
      (r.next < 64 → t.mem.readWord (BitVec.ofNat 14 r.next) = r.words.getD r.next 0 ∧
        (∀ a, ¬inWord (BitVec.ofNat 14 r.next) a → t.mem.read a = s.mem.read a) ∧
        t.refresh = some ⟨r.words, r.next + 1⟩) ∧
      (64 ≤ r.next → t.mem.readWord 0 = r.words.getD 0 0 ∧ (∀ a, ¬inWord 0 a → t.mem.read a = s.mem.read a) ∧
        t.refresh = none)) ∧
  ((∀ (s : State) (ch : PageChoice), Serving s → OnlyWaits s .profileEngine → s.prof.publication = none →
    s.prof.choice = some ch →
    let free : Bool → Bool := fun page1 => s.mem.readWord (pageWordIdx page1 0) == 0
    let leaves : ProfileEngine → State → Prop := fun p t => t.prof = p ∧ t.arbLast = .profileEngine ∧
      { t with prof := s.prof, arbLast := s.arbLast } = s
    (ch.page0Free = none → ∃ t, exec .arbiterGrant s = .next t ∧
      leaves { s.prof with choice := some ⟨ch.copy, some (free false)⟩ } t) ∧
    (∀ page1, (ch.page0Free = some true ∧ free true = true ∧ page1 = !s.prof.lastWritten1 ∨
        ch.page0Free = some true ∧ free true = false ∧ page1 = false ∨
        ch.page0Free = some false ∧ free true = true ∧ page1 = true) → ∃ t, exec .arbiterGrant s = .next t ∧
      leaves { s.prof with choice := none, publication := some ⟨page1, ch.copy, 1⟩ } t) ∧
    (ch.page0Free = some false → free true = false → ∃ t, exec .arbiterGrant s = .next t ∧
      t.prof = { s.prof with choice := none } ∧ (t.alarm.entry .publish).condition = true ∧ EntriesKept s t [.publish] ∧
      t.arbLast = .profileEngine ∧
      { t with prof := s.prof, arbLast := s.arbLast, alarm := s.alarm, notices := s.notices, pins := s.pins } = s)) ∧
  (∀ (s : State) (p : Publication), Serving s → OnlyWaits s .profileEngine → s.prof.publication = some p →
    (p.next ≤ 2431 → (∃ t, exec .arbiterGrant s = .next t ∧ t.arbLast = .profileEngine ∧
      t.mem.readWord (pageWordIdx p.page1 p.next) = pageWord p.copy p.next ∧
      (∀ a, ¬inWord (pageWordIdx p.page1 p.next) a → t.mem.read a = s.mem.read a) ∧
      t.prof = { s.prof with publication := some { p with next := p.next + 1 } } ∧
      { t with mem := s.mem, prof := s.prof, arbLast := s.arbLast } = s) ∧ exec .publicationComplete s = .next s) ∧
    (2431 < p.next → ∀ c, c = .arbiterGrant ∨ c = .publicationComplete → ∃ t, exec c s = .next t ∧
      t.arbLast = .profileEngine ∧ t.mem.readWord (pageWordIdx p.page1 0) = 1 ∧
      (∀ a, ¬inWord (pageWordIdx p.page1 0) a → t.mem.read a = s.mem.read a) ∧
      t.prof = { s.prof with lastWritten1 := p.page1, lastPublished := p.copy.scan.number, publication := none } ∧
      t.notices &&& Notice.scan.bit ≠ 0 ∧ (t.alarm.entry .publish).condition = false ∧ EntriesKept s t [.publish] ∧
      { t with mem := s.mem, prof := s.prof, arbLast := s.arbLast, notices := s.notices, alarm := s.alarm,
               pins := s.pins } = s)) ∧
  (∀ c : PublicationCopy,
    let sc := c.scan
    let b : Bool → Nat → Nat := fun x n => if x then 2 ^ n else 0
    let v : Option Nat → Nat := fun x => x.getD 0
    let how : Nat := match sc.completion with
      | .complete => 1
      | .aborted .stop => 2 + 4 * 1
      | .aborted .brk => 2 + 4 * 2
      | .aborted .alignment => 2 + 4 * 3
      | .aborted .travel => 2 + 4 * 4
    let sheet : Nat := match c.sheet with | .unknown => 0 | .on => 1 | .off => 2
    pageWord c 1 = sc.number ∧
    pageWord c 2 = BitVec.ofNat 32 (how + b (sc.dir == .reverse) 8 + 65536 * sheet) ∧
    pageWord c 3 = packHalves sc.map.nbins sc.binsDone ∧ pageWord c 4 = packHalves sc.map.bin0Pos sc.map.binW ∧
    (sc.edges = none → pageWord c 5 = 0) ∧
    (∀ e z, sc.edges = some (e, z) → e < 512 → z < 512 → pageWord c 5 = BitVec.ofNat 32 (e + 65536 * z + 2 ^ 31)) ∧
    pageWord c 6 = joinHalves sc.calGen sc.zeroGen ∧ pageWord c 7 = sc.startTick ∧ pageWord c 8 = sc.endTick ∧
    pageWord c 9 = packHalves (v sc.mdAverage.mass) (v sc.mdAverage.moist) ∧
    pageWord c 10 = packHalves (v sc.mdAverage.dry) (v sc.mdAverage.cal) ∧
    pageWord c 11 = packHalves c.mdf.mass.toNat c.mdf.moist.toNat ∧
    pageWord c 12 = packHalves c.mdf.dry.toNat c.mdf.cal.toNat ∧
    pageWord c 13 = packHalves (v sc.spread.mass) (v sc.spread.moist) ∧
    pageWord c 14 = packHalves (v sc.spread.dry) (v sc.spread.cal) ∧
    (c.streaks.length ≤ 8 → pageWord c 15 = BitVec.ofNat 32 (c.streaks.length + b c.more 4 + b sc.mdAverage.mass.isSome 8 +
      b sc.mdAverage.moist.isSome 9 + b sc.mdAverage.dry.isSome 10 + b sc.mdAverage.cal.isSome 11 + b sc.sampleLoss 12 +
      b c.reseeded 13 + b c.filtersUpdated 14)) ∧
    (∀ i x, i < 8 → c.streaks[i]? = some x → pageWord c (16 + 2 * i) = packHalves x.start x.width ∧
      pageWord c (17 + 2 * i) = packHalves x.peak.toNat 0) ∧
    (∀ i, i < 8 → c.streaks[i]? = none → pageWord c (16 + 2 * i) = 0 ∧ pageWord c (17 + 2 * i) = 0) ∧
    (∀ i r, sc.bins[i]? = some r →
      let f : Profile → Int × Bool := fun q => (c.filtered.get q).getD i (0, false)
      let half : Profile → Half := fun q => BitVec.ofInt 16 (max (-32768) (min 32767 (f q).1))
      let code : BinState → Nat := fun x => match x with | .notReached => 0 | .valid => 1 | .thin => 2 | .offSheet => 3
      let field : Profile → Nat := fun q => code (r.state.get q) + b (f q).2 2
      pageWord c (32 + 5 * i) = packHalves (v r.value.mass) (v r.value.moist) ∧
      pageWord c (33 + 5 * i) = packHalves (v r.value.dry) (v r.value.cal) ∧
      pageWord c (34 + 5 * i) = joinHalves (half .mass) (half .moist) ∧
      pageWord c (35 + 5 * i) = joinHalves (half .dry) (half .cal) ∧
      (r.count.mass < 4096 → pageWord c (36 + 5 * i) = BitVec.ofNat 32 (field .mass + 16 * (field .moist + b r.zeroBase 3) +
        256 * field .dry + 4096 * field .cal + 65536 * r.count.mass + b r.gap 28 + b r.capped 29))) ∧
    (∀ n, 32 + 5 * sc.bins.length ≤ n → pageWord c n = 0)))

/-- An answer is three writes: the result code into word 14, the value into word 15, DONE or REFUSED into word 0, whatever
they hold; the last takes the card off the list in flight and raises CARD (R211). That they come before the accesses of a
service that runs is the model's choice (log 11). Where the card held the long-order slot for a newer order, that order
takes the slot with the last write (R12, R212). -/
def Obligations.AnswersAreThreeWrites : Prop :=
  ∀ (s : State) (a : Answer) (rest : List Answer), Serving s → OnlyWaits s .orderUnit → s.ord.answers = a :: rest →
    ∃ t, exec .arbiterGrant s = .next t ∧ t.arbLast = .orderUnit ∧
      { t with mem := s.mem, ord := s.ord, arbLast := s.arbLast, notices := s.notices, pins := s.pins, car := s.car } = s ∧
      (s.ord.stage = 0 → t.mem.readWord (cardWord a.slot 14) = BitVec.ofNat 32 a.code ∧
        (∀ b, ¬inWord (cardWord a.slot 14) b → t.mem.read b = s.mem.read b) ∧ t.ord = { s.ord with stage := 1 } ∧
        t.notices = s.notices ∧ t.car = s.car) ∧
      (s.ord.stage = 1 → t.mem.readWord (cardWord a.slot 15) = a.value ∧
        (∀ b, ¬inWord (cardWord a.slot 15) b → t.mem.read b = s.mem.read b) ∧ t.ord = { s.ord with stage := 2 } ∧
        t.notices = s.notices ∧ t.car = s.car) ∧
      (s.ord.stage = 2 → t.mem.readWord (cardWord a.slot 0) = (if a.done then 3 else 4) ∧
        (∀ b, ¬inWord (cardWord a.slot 0) b → t.mem.read b = s.mem.read b) ∧ t.notices = s.notices ||| Notice.card.bit ∧
        (∀ c, c ∈ t.ord.inFlight ↔ c ∈ s.ord.inFlight ∧ c.slot ≠ a.slot) ∧
        { t.ord with service := s.ord.service, inFlight := s.ord.inFlight } = { s.ord with answers := rest, stage := 0 } ∧
        t.car = (match s.car.long, s.car.newer with
          | some l, some n => if l.slot = a.slot then { s.car with long := some n, newer := none } else s.car
          | _, _ => s.car))

/-- A service examines a slot by reading its state word at one grant: POSTED begins the taking of the card, any other value
passes the slot by, and nothing is written (R208). A card being taken has words 1 to 13 read in rising order, one a grant
(R209). -/
def Obligations.ServiceExaminesAndReadsCards : Prop :=
  ∀ (s : State) (slot : Slot) (left : List Slot), Serving s → OnlyWaits s .orderUnit → s.ord.answers = [] →
    (s.ord.service = some ⟨slot :: left, none⟩ → ∃ t, exec .arbiterGrant s = .next t ∧
      { t with ord := s.ord, arbLast := .orderUnit } = { s with arbLast := .orderUnit } ∧
      { t.ord with service := s.ord.service } = s.ord ∧
      (s.mem.readWord (cardWord slot 0) = 1 → t.ord.service = some ⟨left, some ⟨slot, []⟩⟩) ∧
      (s.mem.readWord (cardWord slot 0) ≠ 1 →
        let next := left.dropWhile fun x => s.ord.inFlight.any fun c => c.slot == x
        t.ord.service = if next = [] then none else some ⟨next, none⟩)) ∧
    (∀ words, s.ord.service = some ⟨left, some ⟨slot, words⟩⟩ → words.length < 13 →
      exec .arbiterGrant s = .next { s with
        arbLast := .orderUnit
        ord := { s.ord with service := some ⟨left, some ⟨slot, words ++ [s.mem.readWord (cardWord slot (1 + words.length))]⟩⟩ } })

/-- The grant that writes TAKEN does what the order's own command does in a state whose service has gone on to the next slot:
the model's two ways of taking a card agree (log 9). An order command waits its turn: while the order unit has an answer
to write or a card to read, or another requester waits before it on the ring, the command is an ARBITER_GRANT and then the
same command (R193, R209, R210). It passes over a slot whose card is in flight then (R208). -/
def Obligations.TakenAtAGrantAsByCommand : Prop :=
  (∀ (s : State) (slot : Slot) (left : List Slot) (words : List Word) (o : Order), Settled s → s.phase = .running →
    OnlyWaits s .orderUnit → s.ord.answers = [] → s.ord.service = some ⟨left, some ⟨slot, words⟩⟩ → words.length = 13 →
    inFlight s slot = false → cardOrder words = some o → (∀ m, o = .stop m → m ≤ 1) →
    exec .arbiterGrant s = exec (orderCommand slot o) { s with ord := { s.ord with service := some ⟨left, none⟩ } }) ∧
  (∀ (s : State) (slot : Slot) (o : Order), Settled s → s.phase = .running → (∀ m, o = .stop m → m ≤ 1) →
    let busy := s.ord.answers ≠ [] ∨ (∃ left c, s.ord.service = some ⟨left, some c⟩) ∨
      ∃ r, ringDistance s.arbLast r < ringDistance s.arbLast .orderUnit ∧ waits s r = true
    (busy → ∃ u, exec .arbiterGrant s = .next u ∧ exec (orderCommand slot o) s = exec (orderCommand slot o) u) ∧
    (¬busy → inFlight s slot = true → exec (orderCommand slot o) s = .next s))

/-- The words of a card that carries an order decode to that order, every parameter at every value a halfword admits, and the
tag takes no part (12, the card). -/
def Obligations.CardsDecodeToTheirOrders : Prop :=
  ∀ (slot : Slot) (o : Order) (tag : Half), WellFormed (orderCommand slot o) → (∀ m, o = .stop m → fitsHalf m = true) →
    (orderWords tag o).length = 13 ∧ cardCode (orderWords tag o) = orderCode o ∧ cardOrder (orderWords tag o) = some o

/-- An order refused by the order unit's checks, in their order, is answered REFUSED with that code and value 0 and changes
nothing else; so, at the grant that writes TAKEN, are a card whose code is in no row of the table of orders and a STOP
card of another mode than 0 and 1, which no order command stands for (R210). The ranges and cross-checks of every order
are those of chapter 12's table, written out in AdmittedByTable; an order within them passes. -/
def Obligations.ChecksRefuseBeforeTheOwner : Prop :=
  (∀ (s : State) (slot : Slot) (o : Order), CardFree s slot → (∀ m, o = .stop m → m ≤ 1) →
    let inB := decide (12 ≤ slot.val) && !(orderCode o == 0x18 || orderCode o == 0x29 || orderCode o == 0x2A)
    (inB = true → ∃ t, exec (orderCommand slot o) s = .next t ∧ OrderLeaves s t slot o [answerOf slot .notPermitted 0] s) ∧
    (inB = false → ¬AdmittedByTable o → ∃ t, exec (orderCommand slot o) s = .next t ∧
      OrderLeaves s t slot o [answerOf slot .badParam 0] s) ∧
    (inB = false → AdmittedByTable o → Passes slot o)) ∧
  (∀ (s : State) (slot : Slot) (left : List Slot) (words : List Word), Serving s → OnlyWaits s .orderUnit →
    s.ord.answers = [] → s.ord.service = some ⟨left, some ⟨slot, words⟩⟩ → words.length = 13 →
    (cardOrder words = none ∨ ∃ m, cardOrder words = some (.stop m) ∧ 1 < m) →
    ∃ t, exec .arbiterGrant s = .next t ∧ t.mem.readWord (cardWord slot 0) = 2 ∧
      (∀ a, ¬inWord (cardWord slot 0) a → t.mem.read a = s.mem.read a) ∧
      t.ord = { s.ord with
        lastSlot := slot
        service := some ⟨left, none⟩
        inFlight := s.ord.inFlight ++ [⟨slot, cardCode words, if cardOrder words = none then .orderUnit else .carriage⟩]
        answers := [⟨slot, false, if 12 ≤ slot.val then 0x11 else if cardOrder words = none then 0x10 else 0x12, 0, true⟩] } ∧
      { t with mem := s.mem, ord := s.ord, arbLast := s.arbLast } = s)

/-! ## Time, samples and calibration -/

/-- The counts and the readout of a service tick: tick count, move timer and dwell count rise by 1, the point values are the
means of the tick just ended and their accumulators are emptied (that sums left by a hold which the traverse has left
since the last tick are still read out, and not absent as the last sentence of R61 has it, is the model's choice, log 36),
the pending time base setting comes into force, every holdoff loses 1; one that runs out ends within the tick where its
order counts before the refresh, else at HOLDOFF_END or the next tick (R8, R31, R34, R61, R116, R157; log 6). No event
that the tick makes due comes early; orders of the tick's works that no value of the operand gives are the model's choice
(logs 5, 42).
What a service tick does for the sheet, the export link, the status block and the order unit: BRK_IN is debounced, the
sheet-on run counts a probe mean that looks like sheet with the line inactive, an idle link takes a cycle start, a card
service starts, or, while one runs, one more is queued (R135, R136, R139, R170, R208; a queued flag met with no service
running stays set, log 28).
In every order of its work the tick leaves a refresh of 64 words with this tick's count in word 0, and a move timeout, a
dwell end, an EXTERNAL break or a sheet-on that comes early shows in words 1, 9 and 7; the plans are over in the cases of
the dwell and the sheet-on. A list of early events none of which is due changes nothing (R8, R201; log 5). What the words
of the status block hold, for every state: the table of chapter 11 and the alarm words of R165 (which present flag of word
26 is which: log 38). -/
def Obligations.ServiceTickActs : Prop :=
  (∀ (s : State) (brk : Bool) (o : TickOrder), Settled s → s.phase = .running → o.early = [] → ∃ t, exec (.serviceTick brk o) s = .next t ∧
    t.time = { s.time with
      tick := s.time.tick + 1
      tickCode := match s.time.next with | none => s.time.tickCode | some p => p.1
      sampleCode := match s.time.next with | none => s.time.sampleCode | some p => p.2
      next := none } ∧
    t.car = { s.car with move := s.car.move.map fun m => { m with timer := m.timer + 1 } } ∧
    t.std = { s.std with dwell := s.std.dwell.map fun d => { d with ticks := d.ticks + 1 } } ∧
    { t.eng with point := s.eng.point } = { s.eng with pointAcc := ⟨⟨0, 0⟩, ⟨0, 0⟩, ⟨0, 0⟩⟩ } ∧
    (let mean : Acc → Option Nat := fun a => if a.count = 0 then none else some ((a.sum + a.count / 2) / a.count)
     t.eng.point.mass = mean s.eng.pointAcc.mass ∧ t.eng.point.water = mean s.eng.pointAcc.water ∧
      t.eng.point.cal = mean s.eng.pointAcc.cal ∧
      t.eng.point.moist = deriveMoist (mean s.eng.pointAcc.mass) (mean s.eng.pointAcc.water) ∧
      t.eng.point.dry = deriveDry (mean s.eng.pointAcc.mass) (mean s.eng.pointAcc.water)) ∧
    (let ends : AlarmKind → Prop := fun k => (s.alarm.entry k).state = .holdoff ∧ ((s.alarm.entry k).remaining = 0 ∨
       o.refreshAfterHoldoff = true ∧ (s.alarm.entry k).remaining = 1)
     (∀ k, ends k → t.alarm.entry k = { s.alarm.entry k with state := .activeUnacked, remaining := 0 }) ∧
     (∀ k, ¬ends k → (s.alarm.entry k).state = .holdoff →
       t.alarm.entry k = { s.alarm.entry k with remaining := (s.alarm.entry k).remaining - 1 }) ∧
     (∀ k, (s.alarm.entry k).state ≠ .holdoff → t.alarm.entry k = s.alarm.entry k) ∧
     ((∃ k, ends k ∧ (s.alarm.entry k).major = true) → t.alarm.silence = false) ∧
     ((∀ k, ends k → (s.alarm.entry k).major = false) → t.alarm.silence = s.alarm.silence) ∧
     ((∃ k, ends k) → t.notices = s.notices ||| Notice.alarm.bit) ∧
     ((∀ k, ¬ends k) → t.notices = s.notices ∧ t.pins = s.pins)) ∧
    { t.alarm with entries := s.alarm.entries, silence := s.alarm.silence, sounding := s.alarm.sounding } = s.alarm ∧
    { t.pins with attn := s.pins.attn, lamp := s.pins.lamp, horn := s.pins.horn } = s.pins ∧
    { t with time := s.time, car := s.car, std := s.std, eng := s.eng, alarm := s.alarm, sheet := s.sheet, exp := s.exp,
             ord := s.ord, refresh := s.refresh, notices := s.notices, pins := s.pins } = s) ∧
  (∀ (s : State) (brk : Bool) (o : TickOrder), Settled s → s.phase = .running → o.early = [] → ∃ t, exec (.serviceTick brk o) s = .next t ∧
    (let deb := if brk then (if s.sheet.debounce < 255 then s.sheet.debounce + 1 else 255) else 0
     let read := if o.sampleFirst then deb else s.sheet.debounce
     let sheetLike := s.sheet.state = .off ∧ s.car.traverse = .probing true ∧ read = 0 ∧
       ∃ m, t.eng.point.mass = some m ∧ s.sheet.settings.sheetOnThreshold ≤ m
     t.sheet.debounce = deb ∧ (t.sheet.externalDue = true ↔ s.sheet.settings.brkDebounce ≤ deb) ∧
     (sheetLike → t.sheet.onRun = if s.sheet.onRun < 255 then s.sheet.onRun + 1 else 255) ∧
     (¬sheetLike → t.sheet.onRun = 0) ∧
     (t.sheet.onDue = true ↔ sheetLike ∧ s.sheet.settings.sheetOnTicks ≤ t.sheet.onRun) ∧
     { t.sheet with debounce := s.sheet.debounce, externalDue := s.sheet.externalDue, onRun := s.sheet.onRun,
                    onDue := s.sheet.onDue } = s.sheet) ∧
    (s.exp.sending ≠ none → t.exp = s.exp) ∧
    (s.exp.sending = none →
      let e : ExportSettings := match s.exp.next with | none => s.exp.settings | some v => v
      t.exp.settings = e ∧ t.exp.next = none ∧
      (e.enable = false ∨ s.car.frame = none → t.exp.sending = none ∧ t.exp.cycle = s.exp.cycle) ∧
      (∀ f, e.enable = true → s.car.frame = some f → t.exp.cycle = s.exp.cycle + 1 ∧
        t.exp.sending = some ⟨some (exportCopy f e.profiles s), 0, 0, none⟩)) ∧
    (let slots := (List.finRange 16).map fun i : Fin 16 => s.ord.lastSlot + 1 + i
     let left := if s.ord.answers = [] then slots.dropWhile fun x => s.ord.inFlight.any fun c => c.slot == x else slots
     let started : Option Service := if left = [] then none else some ⟨left, none⟩
     (s.ord.service = none → t.ord = { s.ord with service := started }) ∧
     (s.ord.service ≠ none → t.ord = { s.ord with queued := true })) ∧
    (∃ a : AlarmUnit, t.refresh = some ⟨statusWords { s with
        time := { s.time with tick := s.time.tick + 1 }
        eng := if o.refreshAfterPoint then t.eng else s.eng
        exp := if o.refreshAfterExport then t.exp else s.exp
        alarm := a }, 1⟩ ∧
      a.tone = s.alarm.tone ∧ (o.refreshAfterHoldoff = true → a.entries = t.alarm.entries ∧ a.silence = t.alarm.silence) ∧
      (o.refreshAfterHoldoff = false →
        let late : AlarmKind → Prop := fun k => (s.alarm.entry k).state = .holdoff ∧ (s.alarm.entry k).remaining = 0
        (∀ k, late k → a.entry k = { s.alarm.entry k with state := .activeUnacked }) ∧
        (∀ k, ¬late k → a.entry k = s.alarm.entry k) ∧
        ((∃ k, late k ∧ (s.alarm.entry k).major = true) → a.silence = false) ∧
        ((∀ k, late k → (s.alarm.entry k).major = false) → a.silence = s.alarm.silence)))) ∧
  ((∀ (s : State) (brk : Bool) (o : TickOrder), Settled s → s.phase = .running → ∃ t words,
    exec (.serviceTick brk o) s = .next t ∧ t.refresh = some ⟨words, 1⟩ ∧ words.length = 64 ∧
    words.getD 0 0 = s.time.tick + 1 ∧ t.time.tick = s.time.tick + 1 ∧ t.time.next = none ∧
    (∀ m f, s.car.move = some m → s.car.frame = some f → f.moveTimeout ≤ m.timer + 1 → s.car.traverse ≠ .faulted →
      (o.early = [] → t.car.traverse = s.car.traverse ∧ words.getD 1 0 &&& 0x070F = statusWord1 s.car &&& 0x070F) ∧
      (o.early = [.moveTimeout] → t.car.traverse = .faulted ∧ t.car.cause = some .travelTimeout ∧ t.car.move = none ∧
        words.getD 1 0 &&& 0x070F = 0x0209))) ∧
  (∀ (s t : State) (brk : Bool) (o : TickOrder), Settled s → s.phase = .running →
    exec (.serviceTick brk { o with early := [] }) s = .next t →
    let quiet := s.sheet.externalDue = false ∧ t.sheet.externalDue = false ∧ s.sheet.onDue = false ∧ t.sheet.onDue = false ∧
      (∀ m f, s.car.move = some m → s.car.frame = some f → m.timer + 1 < f.moveTimeout) ∧
      ∀ d, s.std.dwell = some d → d.ticks + 1 < d.stdDwell
    let ended := s.car.plan = .empty ∧ s.car.nextPlan = none
    let leaves : State → List Word → Prop := fun u words =>
      exec (.serviceTick brk o) s = .next u ∧ u.refresh = some ⟨words, 1⟩
    (quiet → exec (.serviceTick brk o) s = .next t) ∧
    (∀ d, o.early = [.dwellEnd] → s.std.dwell = some d → d.stdDwell ≤ d.ticks + 1 → ended → ∃ u words, leaves u words ∧
      u.std.dwell = none ∧ u.notices &&& Notice.std.bit ≠ 0 ∧
      words.getD 9 0 = joinHalves (BitVec.ofNat 16 u.eng.cal.cal.zero) u.std.zeroGen) ∧
    (o.early = [.externalBreak] → o.refreshAfterPoint = true → t.sheet.externalDue = true → s.sheet.state ≠ .off →
      ∃ u words, leaves u words ∧ u.sheet.state = .off ∧ u.sheet.source = .external ∧ u.sheet.externalDue = false ∧
        words.getD 7 0 &&& 0xFF = 0x22) ∧
    (o.early = [.probeSheetOn] → o.refreshAfterPoint = true → t.sheet.onDue = true → ended → ∃ u words, leaves u words ∧
      u.sheet.state = .on ∧ u.sheet.onDue = false ∧ words.getD 7 0 &&& 0x0F = 0x01)) ∧
  (∀ s : State,
    let w : Nat → Word := fun n => (statusWords s).getD n 0
    let b : Bool → Nat → Nat := fun x n => if x then 2 ^ n else 0
    let v : Option Nat → Nat := fun x => x.getD 0
    let side : Side → Nat := fun x => match x with | .tending => 0 | .drive => 1
    let state : Nat × Nat := match s.car.traverse with
      | .halted => (0, 0)
      | .homing .seek => (1, 0)
      | .homing .parkHome => (1, 1)
      | .parked x => (2, side x)
      | .standardizing x => (3, side x)
      | .scanning .forward => (4, 0)
      | .scanning .reverse => (4, 1)
      | .positioning .point => (5, 0)
      | .positioning .park => (5, 1)
      | .positioning .returning => (5, 2)
      | .singlePoint _ => (6, 0)
      | .breakPark x => (7, side x)
      | .probing false => (8, 0)
      | .probing true => (8, 1)
      | .faulted => (9, 0)
    let cause : Nat := match s.car.cause with
      | none => 0
      | some .travelLimit => 1
      | some .travelTimeout => 2
      | some .alignment => 3
      | some .interlock => 4
      | some .driveNotReady => 5
    let dir : Nat := match s.car.move with | none => 0 | some m => if m.dir = .forward then 1 else 2
    let sk : Int := if s.car.valid then (s.car.axis.upper.pos : Int) - s.car.axis.lower.pos else 0
    let sheet : Nat := match s.sheet.state with | .unknown => 0 | .on => 1 | .off => 2
    let source : Nat := match s.sheet.source with | .none => 0 | .sample => 1 | .external => 2 | .noSheet => 3
    let link : Receiver → Nat := fun r => r.bad + 256 * match r.lastError with | .none => 0 | .check => 1 | .sequence => 2 | .overrun => 3
    let outcome : StdOutcome → Nat := fun x =>
      match x with | .none => 0 | .pass => 1 | .failFew => 2 | .failDrift => 3 | .failStep => 4
    let p := s.eng.point
    let sounding := s.alarm.silence = false ∧ ∃ k, (s.alarm.entry k).enabled = true ∧ (s.alarm.entry k).major = true ∧
      (s.alarm.entry k).unacked = true
    (statusWords s).length = 64 ∧ w 0 = s.time.tick ∧
    w 1 = BitVec.ofNat 32 (state.1 + 16 * state.2 + 256 * cause + 4096 * dir + b s.car.valid 15) ∧
    w 2 = packHalves s.car.axis.upper.pos s.car.axis.lower.pos ∧
    w 3 = joinHalves (match s.eng.openBin with | none => 0xFFFF | some i => BitVec.ofNat 16 i)
      (BitVec.ofInt 16 (max (-32768) (min 32767 sk))) ∧
    w 4 = s.prof.scanNumber ∧ w 5 = s.prof.lastPublished ∧
    w 6 = (match s.prof.closed with | none => 0 | some r => r.number) ∧
    (s.sheet.settings.resumeMode < 2 → w 7 = BitVec.ofNat 32 (sheet + 16 * source + 256 * s.sheet.settings.resumeMode)) ∧
    w 8 = packHalves s.eng.cal.mass.zero s.eng.cal.water.zero ∧
    w 9 = joinHalves (BitVec.ofNat 16 s.eng.cal.cal.zero) s.std.zeroGen ∧
    (s.std.count < 256 → w 10 = packHalves (outcome s.std.outcomes.mass + 16 * outcome s.std.outcomes.water +
      256 * outcome s.std.outcomes.cal) (s.std.count + b s.std.due 15)) ∧
    (s.links.upper.bad < 256 → s.links.lower.bad < 256 → w 11 = packHalves (link s.links.upper) (link s.links.lower)) ∧
    (∀ k, let e := s.alarm.entry k
      let state : Nat := match e.state with
        | .normal => 0
        | .holdoff => 1
        | .activeUnacked => 2
        | .activeAcked => 3
        | .returnedUnacked => 4
      let entry := state + b e.condition 3 + b e.enabled 4 + b e.major 5 + b e.latching 6
      e.holdoff < 256 → e.remaining < 256 → s.alarm.tone < 4 → ∃ lamp horn, w (12 + (kindIdx k).val) =
        BitVec.ofNat 32 (entry + 1024 * lamp + 4096 * horn + b s.alarm.silence 13 + 16384 * s.alarm.tone +
          65536 * e.holdoff + 16777216 * e.remaining) ∧
        ((∃ j, (s.alarm.entry j).unacked = true) → lamp = 2) ∧
        ((∀ j, (s.alarm.entry j).unacked = false) → (∃ j, (s.alarm.entry j).state = .activeAcked) → lamp = 1) ∧
        ((∀ j, (s.alarm.entry j).state = .normal ∨ (s.alarm.entry j).state = .holdoff) → lamp = 0) ∧
        (sounding → horn = 1) ∧ (¬sounding → horn = 0)) ∧
    w 24 = packHalves (v p.mass) (v p.water) ∧ w 25 = packHalves (v p.cal) (v p.moist) ∧
    w 26 = packHalves (v p.dry)
      (b p.mass.isSome 0 + b p.water.isSome 1 + b p.cal.isSome 2 + b p.moist.isSome 3 + b p.dry.isSome 4) ∧
    w 27 = (match s.guard.fault with
      | none => 0
      | some r => packHalves r.addr.toNat (1 + b (r.port == .b) 1 + b (r.kind == .write) 2 + b r.multiple 3)) ∧
    w 28 = BitVec.ofNat 32 (((List.finRange 8).map fun i : Fin 8 => b s.guard.ranges[i].enabled i.val).sum + b s.guard.deny 8) ∧
    w 29 = joinHalves s.exp.cycle (BitVec.ofNat 16 (b s.exp.settings.enable 0)) ∧
    w 30 = joinHalves s.eng.calGen (BitVec.ofNat 16
      (b (s.eng.nextCal.mass.isSome || s.eng.nextCal.water.isSome || s.eng.nextCal.cal.isSome) 0 +
        b s.prof.nextSettings.isSome 1)) ∧
    (∀ n, 31 ≤ n → w n = 0)))

/-- A strobe takes the next number, captures the upper position, the skew and the direction under it, and begins a transfer on
both links; nothing else changes (R4, R32). That a strobe which meets a transfer in progress replaces it is the model's
choice (log 20). -/
def Obligations.StrobeCapturesAndBeginsTransfers : Prop :=
  ∀ s : State, Settled s → s.phase = .running →
    let k := s.time.strobe + 1
    let sk : Int := if s.car.valid then (s.car.axis.upper.pos : Int) - (s.car.axis.lower.pos : Int) else 0
    exec .sampleStrobe s = .next { s with
      time := { s.time with strobe := k }
      eng := { s.eng with captures := s.eng.captures ++ [⟨k, s.car.axis.upper.pos, sk, s.car.move.map (·.dir)⟩] }
      links := ⟨{ s.links.upper with transfer := some k }, { s.links.lower with transfer := some k }⟩ }

/-- A completed transfer is judged in order: both slots full is OVERRUN, a sum other than 0xFF is CHECK, a frame count other
than the strobe number modulo 256 is SEQUENCE, else the frame is delivered; the HEAD_LINK condition follows the counts
(R37, R38, R43), and its alarm entry answers the appearance and the going from each of its five states (R156, R160, R162). -/
def Obligations.TransfersAreJudged : Prop :=
  ∀ (s : State) (f : HeadFrame), Settled s → s.phase = .running →
    let b := frameBeam f
    let r := s.links.get b
    let bad := if r.bad < 255 then r.bad + 1 else 255
    (r.transfer = none → exec (.headLinkTransferComplete f) s = .next s) ∧
    (∀ k, r.transfer = some k → ∃ t, exec (.headLinkTransferComplete f) s = .next t ∧
      t.links.get b =
        (if 2 ≤ r.slots.length then
          { r with transfer := none, settled := k, bad := bad, lastError := .overrun, lossLimit := some k }
        else if (frameBytes f).foldl (· + ·) 0 ≠ 0xFF then
          { r with transfer := none, settled := k, bad := bad, lastError := .check }
        else if frameCount f ≠ k.setWidth 8 then
          { r with transfer := none, settled := k, bad := bad, lastError := .sequence }
        else { r with transfer := none, settled := k, bad := 0, slots := r.slots ++ [heldFrame k f] }) ∧
      (∀ c, c ≠ b → t.links.get c = s.links.get c) ∧
      ConditionGiven s t .headLink (decide (8 ≤ t.links.upper.bad ∨ 8 ≤ t.links.lower.bad)) ∧
      { t with links := s.links, alarm := s.alarm, notices := s.notices, pins := s.pins } = s)

/-- The record formed next is that of the next strobe number, once both links have settled it and no record is being formed,
no SAMPLE break is due and no dwell readout is due; else the command changes nothing (R39, R116, R134). The record's
fields are those captured, its channels present where the delivered frame's READY bit and the skew test say so, its loss
mark where a loss limit reaches it; the frames and the capture leave (R39 to R43).
Where a record goes: in STANDARDIZING its raw readings into the dwell accumulators, in SINGLE_POINT and the PROBING hold
its values into the point accumulators, in SCANNING to the bins, elsewhere nowhere; the break detector counts low readings
inside the on-sheet window, which the edges record gives, or, without one, the whole bin span (R57, R58, R60, R115, R132,
R133). A record taken lets the next strobe's begin (R39). -/
def Obligations.RecordsAreFormedAndRouted : Prop :=
  ((∀ s : State, Settled s → s.phase = .running →
    let ready := s.eng.forming = none ∧ s.sheet.sampleDue = false ∧ (∀ d, s.std.dwell = some d → d.ticks < d.stdDwell) ∧
      (∀ b, ((s.links.get b).settled - s.eng.nextStrobe).toNat < 2147483648) ∧
      ∃ c ∈ s.eng.captures, c.strobe = s.eng.nextStrobe
    ((∃ c, nextCapture s = some c) ↔ ready) ∧ (¬ready → exec .formSampleRecord s = .next s)) ∧
  (∀ (s : State) (c : Capture), Settled s → s.phase = .running → nextCapture s = some c →
    let held : Receiver → Option HeldFrame := fun r => r.slots.head?.filter fun h => h.strobe == c.strobe
    let lost : Receiver → Prop := fun r => ∃ l, r.lossLimit = some l ∧ (l - c.strobe).toNat < 2147483648
    c.strobe = s.eng.nextStrobe ∧ s.eng.forming = none ∧
    (∀ b, ((s.links.get b).settled - c.strobe).toNat < 2147483648) ∧
    ∃ t r, exec .formSampleRecord s = .next t ∧ t.eng.forming = some r ∧
      r.strobe = c.strobe ∧ r.pos = c.pos ∧ r.skew = c.skew ∧ r.dir = c.dir ∧
      (∀ v, r.raw.mass = some v ↔ ∃ h, held s.links.upper = some h ∧ h.status.getLsbD 7 = true ∧ v = h.first.toNat) ∧
      (∀ v, r.raw.water = some v ↔ ∃ h, held s.links.upper = some h ∧ h.status.getLsbD 6 = true ∧ v = h.second.toNat) ∧
      (∀ v, r.raw.cal = some v ↔ ∃ h, held s.links.lower = some h ∧ h.status.getLsbD 7 = true ∧ v = h.first.toNat ∧
        ∀ f, s.car.frame = some f → c.skew.natAbs ≤ f.skewCal) ∧
      (∀ q, r.value.get q = (r.raw.get q).map (convert (s.eng.cal.get q))) ∧
      (r.loss = true ↔ lost s.links.upper ∨ lost s.links.lower) ∧
      (∀ d, d ∈ t.eng.captures ↔ d ∈ s.eng.captures ∧ d.strobe ≠ c.strobe) ∧
      (∀ b, (t.links.get b).slots = if (held (s.links.get b)).isSome then (s.links.get b).slots.tail else (s.links.get b).slots) ∧
      (∀ b, (t.links.get b).lossLimit = if (s.links.get b).lossLimit = some c.strobe then none else (s.links.get b).lossLimit) ∧
      { t.eng with forming := s.eng.forming, captures := s.eng.captures, accs := s.eng.accs, openBin := s.eng.openBin,
                   binsDone := s.eng.binsDone, pointAcc := s.eng.pointAcc } = s.eng ∧
      { t with eng := s.eng, links := s.links, sheet := s.sheet, prof := s.prof, std := s.std } = s)) ∧
  (∀ (s : State) (c : Capture), Settled s → s.phase = .running → nextCapture s = some c → ∃ t r,
    exec .formSampleRecord s = .next t ∧ t.eng.forming = some r ∧
    (let put : Acc → Option Nat → Acc := fun a v => match v with | none => a | some v => ⟨a.sum + v, a.count + 1⟩
     (s.car.traverse.isStandardizing = true → t.std = { s.std with dwell := s.std.dwell.map fun d =>
        { d with acc := Per3.ofFn fun q => put (d.acc.get q) (r.raw.get q) } }) ∧
     (s.car.traverse.isStandardizing = false → t.std = s.std) ∧
     (s.car.traverse = .probing true ∨ (∃ p, s.car.traverse = .singlePoint p) →
       t.eng.pointAcc = Per3.ofFn fun q => put (s.eng.pointAcc.get q) (r.value.get q)) ∧
     (s.car.traverse ≠ .probing true → (∀ p, s.car.traverse ≠ .singlePoint p) → t.eng.pointAcc = s.eng.pointAcc)) ∧
    (s.car.traverse.isScanning = false → t.prof = s.prof ∧ t.eng.accs = s.eng.accs ∧ t.eng.openBin = s.eng.openBin ∧
      t.eng.binsDone = s.eng.binsDone) ∧
    (let inside := ∃ f, s.car.frame = some f ∧
       (∀ e, s.prof.edges = some e →
         f.bin0Pos + e.tend * f.binW ≤ r.pos ∧ r.pos ≤ f.bin0Pos + (e.drive + 1) * f.binW - 1) ∧
       (s.prof.edges = none → f.bin0Pos ≤ r.pos ∧ r.pos ≤ f.bin0Pos + f.nbins * f.binW - 1)
     let watched := (s.car.traverse.isScanning = true ∨ ∃ p, s.car.traverse = .singlePoint p) ∧ inside
     (¬watched → t.sheet.lowRun = 0) ∧ (watched → r.value.mass = none → t.sheet.lowRun = s.sheet.lowRun) ∧
     (∀ m, watched → r.value.mass = some m → s.sheet.settings.breakThreshold ≤ m → t.sheet.lowRun = 0) ∧
     (∀ m, watched → r.value.mass = some m → m < s.sheet.settings.breakThreshold →
       t.sheet.lowRun = if s.sheet.lowRun < 255 then s.sheet.lowRun + 1 else 255) ∧
     (t.sheet.sampleDue = true ↔ watched ∧ ∃ m, r.value.mass = some m ∧ m < s.sheet.settings.breakThreshold ∧
       s.sheet.settings.breakRun ≤ t.sheet.lowRun) ∧
     { t.sheet with lowRun := s.sheet.lowRun, sampleDue := s.sheet.sampleDue } = s.sheet) ∧
    (∃ u, exec .recordTaken t = .next u ∧ u.eng = { t.eng with forming := none, nextStrobe := s.eng.nextStrobe + 1 } ∧
      { u with eng := t.eng } = t))

/-- A record in SCANNING with its bin open is added to it, channel by channel up to the cap; a bin ahead closes the open bin,
reading out its means, counts, marks and states, and opens its own, the bins between counted as closed; a bin behind or a
place outside the span changes no accumulator. The mark of a loss goes to the bin then open (R44, R64, R67 to R72). -/
def Obligations.RecordsEnterTheirBins : Prop :=
  ∀ (s : State) (c : Capture) (sc : ScanRecord), Settled s → s.phase = .running → nextCapture s = some c →
    s.car.traverse.isScanning = true → s.prof.openScan = some sc → 0 < sc.map.binW → s.eng.accs.length = sc.map.nbins →
    (∀ o, s.eng.openBin = some o → o < sc.map.nbins) → ∃ t r, exec .formSampleRecord s = .next t ∧ t.eng.forming = some r ∧
    let inSpan := r.dir = some sc.dir ∧ sc.map.bin0Pos ≤ r.pos ∧ r.pos < sc.map.bin0Pos + sc.map.nbins * sc.map.binW
    let b := (r.pos - sc.map.bin0Pos) / sc.map.binW
    let ahead : Nat → Prop := fun o => if sc.dir = .forward then o < b else b < o
    let put : Acc → Option Nat → Acc := fun a v => match v with
      | none => a
      | some v => if a.count < 4095 then ⟨a.sum + v, a.count + 1⟩ else a
    let full : Acc → Option Nat → Prop := fun a v => v ≠ none ∧ 4095 ≤ a.count
    let before := s.eng.accs.getD b BinAcc.zero
    (inSpan → (∀ o, s.eng.openBin = some o → o = b ∨ ahead o) → t.eng.openBin = some b ∧
      (∀ i, i ≠ b → t.eng.accs.getD i BinAcc.zero = s.eng.accs.getD i BinAcc.zero) ∧
      (t.eng.accs.getD b BinAcc.zero).acc = Per3.ofFn (fun q => put (before.acc.get q) (r.value.get q)) ∧
      ((t.eng.accs.getD b BinAcc.zero).capped = true ↔ before.capped = true ∨ ∃ q, full (before.acc.get q) (r.value.get q)) ∧
      ((t.eng.accs.getD b BinAcc.zero).gap = true ↔ before.gap = true ∨ r.loss = true)) ∧
    (inSpan → s.eng.openBin = some b → t.eng.binsDone = s.eng.binsDone) ∧
    (∀ o, inSpan → s.eng.openBin = some o → ahead o → t.eng.binsDone = s.eng.binsDone + (if o ≤ b then b - o else o - b)) ∧
    (inSpan → s.eng.openBin = none →
      t.eng.binsDone = s.eng.binsDone + (if sc.dir = .forward then b else sc.map.nbins - 1 - b)) ∧
    (¬inSpan ∨ (∃ o, s.eng.openBin = some o ∧ o ≠ b ∧ ¬ahead o) → t.eng.openBin = s.eng.openBin ∧
      t.eng.binsDone = s.eng.binsDone ∧
      (∀ i, (t.eng.accs.getD i BinAcc.zero).acc = (s.eng.accs.getD i BinAcc.zero).acc) ∧
      (∀ o, s.eng.openBin = some o → r.loss = true → (t.eng.accs.getD o BinAcc.zero).gap = true)) ∧
    (r.loss = true → t.eng.openBin ≠ none → ∃ sc', t.prof.openScan = some sc' ∧ sc'.sampleLoss = true) ∧
    (¬(inSpan ∧ ∃ o, s.eng.openBin = some o ∧ ahead o) → ∃ sc', t.prof.openScan = some sc' ∧
      { sc' with sampleLoss := sc.sampleLoss } = sc) ∧
    (∀ o, inSpan → s.eng.openBin = some o → ahead o → ∃ sc' x, t.prof.openScan = some sc' ∧
      { sc' with sampleLoss := sc.sampleLoss } = { sc with results := sc.results.set o x } ∧
      let a := s.eng.accs.getD o BinAcc.zero
      let mean : Acc → Option Nat := fun a => if a.count = 0 then none else some ((a.sum + a.count / 2) / a.count)
      let m := mean a.acc.mass
      let w := mean a.acc.water
      let full : Channel → Prop := fun q => sc.settings.binMin ≤ (a.acc.get q).count
      x.value = ⟨m, deriveMoist m w, deriveDry m w, mean a.acc.cal⟩ ∧ x.zeroBase = zeroBase m w ∧
      x.count = ⟨a.acc.mass.count, a.acc.water.count, a.acc.cal.count⟩ ∧ x.gap = a.gap ∧ x.capped = a.capped ∧
      x.deviation = ⟨none, none, none, none⟩ ∧
      (full .mass → x.state.mass = .valid) ∧ (¬full .mass → x.state.mass = .thin) ∧
      (full .cal → x.state.cal = .valid) ∧ (¬full .cal → x.state.cal = .thin) ∧
      (full .mass ∧ full .water ∧ x.value.moist ≠ none → x.state.moist = .valid) ∧
      (¬(full .mass ∧ full .water ∧ x.value.moist ≠ none) → x.state.moist = .thin) ∧
      (full .mass ∧ full .water ∧ x.value.dry ≠ none → x.state.dry = .valid) ∧
      (¬(full .mass ∧ full .water ∧ x.value.dry ≠ none) → x.state.dry = .thin))

/-- Conversion in its five steps: difference, product, quotient by 16384 to nearest with ties away from zero, offset, clamp
(R54).
The moisture ratio and the dry weight derived from a mass and a water mean (R55, R56). -/
def Obligations.ConversionAndDerivedQuantities : Prop :=
  (∀ (c : CalRecord) (r : Nat),
    let p : Int := ((r : Int) - c.zero) * c.values.gain
    ∃ q : Int, 2 * (p - 16384 * q).natAbs ≤ 16384 ∧ (2 * (p - 16384 * q).natAbs = 16384 → p.natAbs ≤ (16384 * q).natAbs) ∧
      (convert c r : Int) = max 0 (min 65535 (q + c.values.offset)) ∧
      (r ≤ 65535 → c.zero ≤ 65535 → c.values.gain ≤ 65535 →
        ((r : Int) - c.zero).natAbs ≤ 65535 ∧ p.natAbs ≤ 4294836225 ∧ q.natAbs ≤ 262136)) ∧
  (∀ m w : Nat,
    (0 < m → deriveMoist (some m) (some w) = some (min ((w * 10000 + m / 2) / m) 10000)) ∧
    deriveMoist (some 0) (some w) = none ∧ (zeroBase (some m) (some w) = true ↔ m = 0) ∧
    (∀ x y, x = none ∨ y = none → deriveMoist x y = none ∧ zeroBase x y = false ∧ deriveDry x y = none) ∧
    deriveDry (some m) (some w) = some (m - w) ∧ (∀ v, deriveMoist (some m) (some w) = some v → v ≤ 10000))

/-- A COMPLETE close finds the edges, the lowest and the highest bin whose MASS is VALID and at least edge_threshold; the bins
outside them are marked off the sheet with everything measured kept; the qualifying bins give the MD average rounded half
up, the deviations and the spread. An ABORTED close has none of these and leaves the bin states (R77 to R82). -/
def Obligations.ClosesFindEdgesAndStatistics : Prop :=
  ∀ (sc : ScanRecord) (done : Nat) (tick : Word) (why : AbortReason),
    let c := closedScan .complete sc done tick
    let a := closedScan (.aborted why) sc done tick
    let len := sc.results.length
    let margin := sc.settings.edgeMargin
    let bin : Nat → BinResult := fun i => sc.results.getD i BinResult.notReached
    let candidate : Nat → Prop := fun i => i < len ∧ (bin i).state.mass = .valid ∧
      ∃ m, (bin i).value.mass = some m ∧ sc.settings.edgeThreshold ≤ m
    let off : Nat → Prop := fun i => ∃ t d, c.edges = some (t, d) ∧ (i < t ∨ d < i)
    let good : Nat → Profile → Bool := fun i q => match c.edges with
      | none => false
      | some (t, d) => decide (t + margin ≤ i) && decide (i + margin ≤ d) && (bin i).state.get q == .valid
    (∀ t d, c.edges = some (t, d) ↔ candidate t ∧ candidate d ∧ ∀ i, candidate i → t ≤ i ∧ i ≤ d) ∧
    c.bins.length = len ∧
    (∀ i r, c.bins[i]? = some r → { r with state := (bin i).state, deviation := (bin i).deviation } = bin i ∧ ∀ q,
      (off i → r.state.get q = if (bin i).state.get q = .notReached then .notReached else .offSheet) ∧
      (¬off i → r.state.get q = (bin i).state.get q) ∧
      r.deviation.get q = if good i q then
        (match (bin i).value.get q, c.mdAverage.get q with | some v, some m => some ((v : Int) - m) | _, _ => none) else none) ∧
    (∀ q, let vs := (List.range len).filterMap fun i => if good i q then (bin i).value.get q else none
      c.mdAverage.get q = (if vs = [] then none else some ((vs.sum + vs.length / 2) / vs.length)) ∧
      (c.spread.get q = none ↔ vs = []) ∧
      (∀ p, c.spread.get q = some p → (∀ v ∈ vs, ∀ w ∈ vs, v ≤ w + p) ∧ ∃ v ∈ vs, ∃ w ∈ vs, v = w + p)) ∧
    a.edges = none ∧ (∀ q, a.mdAverage.get q = none ∧ a.spread.get q = none) ∧ a.bins.length = len ∧
    (∀ i r, a.bins[i]? = some r → { r with deviation := (bin i).deviation } = bin i ∧ ∀ q, r.deviation.get q = none)

/-- A filtered profile changes only at the close of a COMPLETE scan with edges found, which then become the edges record and
the scan the source scan, at a SET_FRAME that changes the bin geometry, at pin reset and at soft reset (R98). A port B
transfer, which spans many grants, finds no internal access waiting, and a SET_FRAME command finds no card being read,
which could be a SET_FRAME too. -/
def Obligations.FiltersChangeOnlyAtClosesAndResets : Prop :=
  ∀ (c : Instr) (s t : State), ((∃ bs, c = .portBRead bs ∨ c = .portBWrite bs) → Idle s) →
    ((∃ slot r, c = .setFrame slot r) → ∀ left x, s.ord.service ≠ some ⟨left, some x⟩) → exec c s = .next t →
    t.prof.table ≠ s.prof.table ∨ t.prof.mdf ≠ s.prof.mdf →
    c = .pinReset ∨ (∃ v, c = .softReset v) ∨
    (∃ r, t.car.frame = some r ∧ ∀ f, s.car.frame = some f → ¬(f.bin0Pos = r.bin0Pos ∧ f.binW = r.binW ∧ f.nbins = r.nbins)) ∨
    ∃ sc a z, s.prof.openScan = some sc ∧ (closedScan .complete (shutScan s sc) 0 0).edges = some (a, z) ∧
      t.prof.edges = some ⟨a, z, sc.number⟩ ∧ t.prof.sourceScan = sc.number

/-- A filter step is the difference times the gain divided by 16, to nearest with ties away from zero, for a bin's F and for
an MDF, and it never overshoots: after an update F lies between its old value and the deviation, both included, and a gain
of 16 closes the difference; MDF moves likewise. A bin that does not qualify keeps F and ages (R94, R95, R97). -/
def Obligations.FilterStepsNeverOvershoot : Prop :=
  ∀ (e : FilterEntry) (d : Int) (k a : Nat) (mdf : Int), 1 ≤ k → k ≤ 16 →
    (∃ q : Int, (e.update k (some d)).f = e.f + q ∧ 2 * ((d - e.f) * k - 16 * q).natAbs ≤ 16 ∧
      (2 * ((d - e.f) * k - 16 * q).natAbs = 16 → ((d - e.f) * k).natAbs ≤ (16 * q).natAbs)) ∧
    (∃ q : Int, updateMdf k (some a) mdf = mdf + q ∧ 2 * ((a - mdf) * k - 16 * q).natAbs ≤ 16 ∧
      (2 * ((a - mdf) * k - 16 * q).natAbs = 16 → ((a - mdf) * k).natAbs ≤ (16 * q).natAbs)) ∧
    min e.f d ≤ (e.update k (some d)).f ∧ (e.update k (some d)).f ≤ max e.f d ∧ (e.update 16 (some d)).f = d ∧
    ((d - e.f).natAbs * k < 8 → (e.update k (some d)).f = e.f) ∧
    (e.update k (some d)).age = 0 ∧ (e.update k (some d)).lastUpdate = true ∧
    min mdf a ≤ updateMdf k (some a) mdf ∧ updateMdf k (some a) mdf ≤ max mdf a ∧ updateMdf 16 (some a) mdf = a ∧
    updateMdf k none mdf = mdf ∧
    e.update k none = ⟨e.f, if e.age < 255 then e.age + 1 else 255, false⟩

/-! ## The sheet -/

/-- A break taken in a state other than SCANNING and SINGLE_POINT turns an UNKNOWN or ON sheet OFF with its source, empties
the streak list, gives EDGE and WET_STREAK gone and SHEET_BREAK present and raises SHEET, and moves nothing; taken while
OFF, or not due, it changes no more than the counter (R129, R134, R136).
A break taken in SCANNING or SINGLE_POINT makes a break request: a long order other than STOP is abandoned, an open scan
is closed ABORTED BREAK (a choice of a page under way, and the copy taken at the close: log 8), and the carriages go to
the nearest park, the plans kept; of the sheet and the alarms it leaves all that any break leaves (R20, R23, R129, R130).
Where both stand at or past that park the move ends at its start and the park decision follows (R6, R18); where its start
fails the traverse is FAULTED (R6, R23, R28). The order in which cards ended together are answered is the model's choice
(log 35). -/
def Obligations.BreaksTurnTheSheetOffAndSendHome : Prop :=
  (∀ (s : State) (src : BreakSource) (c : Instr), Settled s → s.phase = .running →
    (c = .sampleBreak ∧ src = .sample ∨ c = .externalBreak ∧ src = .external) →
    let due := if src = .sample then s.sheet.sampleDue = true ∧ s.eng.forming = none else s.sheet.externalDue = true
    let left : SheetMonitor := if src = .sample then { s.sheet with sampleDue := false } else { s.sheet with externalDue := false }
    (¬due → exec c s = .next s) ∧
    (due → s.sheet.state = .off →
      exec c s = .next { s with sheet := if src = .sample then { left with lowRun := 0 } else left }) ∧
    (due → s.sheet.state ≠ .off → s.car.traverse.watchesSheet = false → ∃ t, exec c s = .next t ∧
      t.sheet = { left with state := .off, source := src, lowRun := 0, onRun := 0, streaks := [], more := false,
                            onDue := false } ∧
      (t.alarm.entry .edge).condition = false ∧ (t.alarm.entry .wetStreak).condition = false ∧
      (t.alarm.entry .sheetBreak).condition = true ∧ EntriesKept s t [.edge, .wetStreak, .sheetBreak] ∧
      t.notices &&& Notice.sheet.bit ≠ 0 ∧
      { t with sheet := s.sheet, alarm := s.alarm, notices := s.notices, pins := s.pins } = s)) ∧
  (∀ (s : State) (src : BreakSource) (f : FrameRecord) (c : Instr), Settled s → s.phase = .running →
    (c = .sampleBreak ∧ src = .sample ∧ s.sheet.sampleDue = true ∧ s.eng.forming = none ∨
      c = .externalBreak ∧ src = .external ∧ s.sheet.externalDue = true) →
    s.sheet.state ≠ .off → s.car.traverse.watchesSheet = true → s.car.frame = some f →
    let left : SheetMonitor := if src = .sample then { s.sheet with sampleDue := false } else { s.sheet with externalDue := false }
    let pos := s.car.axis.upper.pos
    let side : Side := if (if pos ≤ f.parkDrive then f.parkDrive - pos else pos - f.parkDrive) <
      (if pos ≤ f.parkTend then f.parkTend - pos else pos - f.parkTend) then .drive else .tending
    let target := if side = .drive then f.parkDrive else f.parkTend
    let dir : Direction := if target < pos then .reverse else .forward
    let stops := ∃ l, s.car.underWay = some l ∧ (l.kind = .stopEnd ∨ l.kind = .stopNow)
    let there : PerBeam Bool := ⟨atOrPast dir pos target, atOrPast dir s.car.axis.lower.pos target⟩
    let given : List Answer := if stops then [] else longAnswer s .abandoned 0
    let long := if stops then s.car.long else none
    let newer := if stops then s.car.newer else none
    let broken : State → Prop := fun t =>
      t.sheet = { left with state := .off, source := src, lowRun := 0, onRun := 0, streaks := [], more := false, onDue := false } ∧
      (t.alarm.entry .edge).condition = false ∧ (t.alarm.entry .wetStreak).condition = false ∧
      EntriesKept s t [.edge, .wetStreak, .sheetBreak, .sampleLoss, .publish, .alignment, .travel] ∧
      (s.car.traverse.isScanning = true → ScanAborted s t .brk) ∧
      (s.car.traverse.isScanning = false → t.prof = s.prof ∧ t.eng = s.eng) ∧
      t.prof.table = s.prof.table ∧ t.prof.mdf = s.prof.mdf ∧ t.prof.edges = s.prof.edges ∧
      (t.alarm.entry .sheetBreak).condition = true ∧ t.notices &&& Notice.sheet.bit ≠ 0 ∧
      { t with car := s.car, sheet := s.sheet, prof := s.prof, eng := s.eng, ord := s.ord, alarm := s.alarm,
               notices := s.notices, pins := s.pins, std := s.std } = s ∧ { t.std with card := s.std.card } = s.std
    (StartChecks s → there ≠ ⟨true, true⟩ → ∃ t, exec c s = .next t ∧ broken t ∧
      t.car = { s.car with
        traverse := .breakPark side
        long := long
        newer := newer
        move := some ⟨.breakReturn side, target, dir, there, ⟨false, false⟩, 0⟩ } ∧
      t.ord.answers = s.ord.answers ++ given ∧ t.std = s.std) ∧
    (StartChecks s → there = ⟨true, true⟩ → ∃ t, exec c s = .next t ∧ broken t ∧
      ParkDecided { s with
        car := { s.car with traverse := .breakPark side, long := long, newer := newer, move := none }
        ord := { s.ord with answers := s.ord.answers ++ given }
        sheet := t.sheet } t side f id) ∧
    (∀ k, StartFails s k → ∃ t, exec c s = .next t ∧ broken t ∧
      t.car = { s.car with
        traverse := .faulted
        cause := some k
        move := none
        long := none
        newer := none
        plan := .empty
        nextPlan := none } ∧
      t.ord.answers = s.ord.answers ++ longAnswer s .abandoned 0 ++ waitingStd s ∧
      (t.alarm.entry k.alarm).condition = true ∧ t.notices &&& Notice.traverse.bit ≠ 0))

/-- A sheet-on, by probing or by RESUME: the sheet turns ON keeping its source, the runs are 0, the reseed flag is set,
SHEET_BREAK is gone and SHEET raised, and the traverse is left as it is outside PROBING and PARKED (R24, R140, R141).
RESUME is refused BUSY while the break line is not inactive and NOT_READY while the sheet is not OFF.
A sheet-on, by probing or by RESUME, while the traverse is PROBING drops the PROBE move and starts a RETURN move to the
nearest park, a start that fails faulting the traverse; while PARKED it brings the park decision with the sheet ON: a held
STOP, a plan that starts a traverse, a start that fails, or no traverse to make (R18, R24, R140). A nearest park that both
carriages stand at or past brings the park decision at once. A traverse that starts does not begin beyond the park it goes
to. The order in which cards ended together are answered is the model's choice (log 35). -/
def Obligations.SheetOnReseedsAndReturns : Prop :=
  (∀ (s : State) (slot : Slot), CardFree s slot →
    let turned : State → Prop := fun t => t.sheet = { s.sheet with
        state := .on
        onRun := 0
        lowRun := 0
        onDue := false } ∧
      t.prof = { s.prof with reseed := true } ∧ (t.alarm.entry .sheetBreak).condition = false ∧ EntriesKept s t [.sheetBreak] ∧
      t.notices &&& Notice.sheet.bit ≠ 0
    let still := (∀ h, s.car.traverse ≠ .probing h) ∧ (∀ x, s.car.traverse ≠ .parked x)
    let code : Word := match s.sheet.source with | .none => 0 | .sample => 1 | .external => 2 | .noSheet => 3
    (s.sheet.onDue = true ∧ s.sheet.state = .off → still → ∃ t, exec .probeSheetOn s = .next t ∧ turned t ∧
      { t with sheet := s.sheet, prof := s.prof, alarm := s.alarm, notices := s.notices, pins := s.pins } = s) ∧
    (¬(s.sheet.onDue = true ∧ s.sheet.state = .off) → exec .probeSheetOn s = .next s) ∧
    (Passes slot .resume → s.sheet.state = .off → s.sheet.debounce = 0 → still → ∃ t, exec (.resume slot) s = .next t ∧ turned t ∧
      CardAnswered s t slot .resume [answerOf slot .ok code] ∧
      { withoutCard s t with sheet := s.sheet, prof := s.prof, alarm := s.alarm, notices := s.notices, pins := s.pins } = s) ∧
    (Passes slot .resume → s.sheet.state = .off → s.sheet.debounce ≠ 0 → ∃ t, exec (.resume slot) s = .next t ∧
      OrderLeaves s t slot .resume [answerOf slot .busy 0] s) ∧
    (Passes slot .resume → s.sheet.state ≠ .off → ∃ t, exec (.resume slot) s = .next t ∧
      OrderLeaves s t slot .resume [answerOf slot .notReady 0] s)) ∧
  ((∀ (s : State) (f : FrameRecord) (h : Bool) (side : Side), Settled s → s.phase = .running → s.sheet.onDue = true →
    s.sheet.state = .off → s.car.frame = some f →
    (s.car.traverse = .probing h → StartChecks s →
      let pos := s.car.axis.upper.pos
      let side : Side := if (if pos ≤ f.parkDrive then f.parkDrive - pos else pos - f.parkDrive) <
        (if pos ≤ f.parkTend then f.parkTend - pos else pos - f.parkTend) then .drive else .tending
      let target := if side = .drive then f.parkDrive else f.parkTend
      let dir : Direction := if target < pos then .reverse else .forward
      target ≠ pos → ∃ t, exec .probeSheetOn s = .next t ∧ t.sheet.state = .on ∧
        t.car = { s.car with
          traverse := .positioning .returning
          move := some ⟨.returning side, target, dir, ⟨false, atOrPast dir s.car.axis.lower.pos target⟩, ⟨false, false⟩, 0⟩ } ∧
        t.ord = s.ord ∧ t.mem = s.mem) ∧
    (s.car.traverse = .parked side → s.car.move = none → s.car.nextPlan = none → s.car.plan = .empty ∨ s.car.plan = .remaining 0 →
      s.car.underWay = none → ∃ t, exec .probeSheetOn s = .next t ∧ t.sheet.state = .on ∧ t.car = { s.car with plan := .empty } ∧
        t.ord = s.ord ∧ t.mem = s.mem)) ∧
  (∀ (s : State) (f : FrameRecord) (slot : Slot) (c : Instr) (new : List Answer), s.sheet.state = .off → s.car.frame = some f →
    (c = .probeSheetOn ∧ Settled s ∧ s.phase = .running ∧ s.sheet.onDue = true ∧ new = [] ∨
      c = .resume slot ∧ CardFree s slot ∧ Passes slot .resume ∧ s.sheet.debounce = 0 ∧ new = [answerOf slot .ok
        (match s.sheet.source with | .none => 0 | .sample => 1 | .external => 2 | .noSheet => 3)]) →
    let on : SheetMonitor := { s.sheet with state := .on, onRun := 0, lowRun := 0, onDue := false }
    (∀ h, s.car.traverse = .probing h → StartChecks s →
      let pos := s.car.axis.upper.pos
      let side : Side := if (if pos ≤ f.parkDrive then f.parkDrive - pos else pos - f.parkDrive) <
        (if pos ≤ f.parkTend then f.parkTend - pos else pos - f.parkTend) then .drive else .tending
      let target := if side = .drive then f.parkDrive else f.parkTend
      let dir : Direction := if target < pos then .reverse else .forward
      let there : PerBeam Bool := ⟨atOrPast dir pos target, atOrPast dir s.car.axis.lower.pos target⟩
      (there ≠ ⟨true, true⟩ → ∃ t, exec c s = .next t ∧ t.sheet = on ∧ t.prof = { s.prof with reseed := true } ∧
        t.car = { s.car with
          traverse := .positioning .returning
          move := some ⟨.returning side, target, dir, there, ⟨false, false⟩, 0⟩ } ∧
        t.ord.answers = s.ord.answers ++ new) ∧
      (there = ⟨true, true⟩ → (if side = .tending then pos < f.parkDrive else f.parkTend < pos) →
        ∃ t, exec c s = .next t ∧ t.sheet = on ∧ ParkDecided { s with
          sheet := on
          car := { s.car with traverse := .positioning .returning, move := none }
          ord := { s.ord with answers := s.ord.answers ++ new } } t side f id)) ∧
    (∀ h k, s.car.traverse = .probing h → StartFails s k → ∃ t, exec c s = .next t ∧ t.sheet = on ∧
      t.prof = { s.prof with reseed := true } ∧
      t.car = { s.car with traverse := .faulted, cause := some k, move := none, long := none,
                           newer := none, plan := .empty, nextPlan := none } ∧
      (t.alarm.entry k.alarm).condition = true ∧ t.notices &&& Notice.traverse.bit ≠ 0 ∧
      t.ord.answers = s.ord.answers ++ new ++ longAnswer s .abandoned 0 ++ waitingStd s) ∧
    (∀ side, s.car.traverse = .parked side → s.car.move = none →
      (if side = .tending then s.car.axis.upper.pos < f.parkDrive else f.parkTend < s.car.axis.upper.pos) →
      ∃ t, exec c s = .next t ∧ t.sheet = on ∧
      (t.prof.table = s.prof.table ∧ t.prof.mdf = s.prof.mdf ∧ t.prof.edges = s.prof.edges ∧ t.prof.reseed = true) ∧
      (t.alarm.entry .sheetBreak).condition = false ∧ t.notices &&& Notice.sheet.bit ≠ 0 ∧
      ParkDecided { s with sheet := on, ord := { s.ord with answers := s.ord.answers ++ new } } t side f id)))

/-! ## The frame: edges, arrivals, holds, faults -/

/-- An encoder edge moves the accumulator by 1; at the prescaler it returns to 0 and the count moves by 1, staying within
0..65535. The other carriage, the memory and the ports stay, and so does all else unless a position event acts (R3, R10).
A position event beyond skew_fault with positions valid faults the traverse with ALIGNMENT before arrival and hold, in
every state but HALTED and FAULTED, standing or moving (R10, R28). The order in which cards ended together are answered is
the model's choice (log 35). What a close does while a choice of a page is under way, and the moment of its copy, are the
model's choice (log 8). -/
def Obligations.EdgesCountAndAlignmentIsChecked : Prop :=
  (∀ (s : State) (b : Beam) (d : Direction), Settled s → s.phase ≠ .held →
    let p : Int := match s.car.frame with | none => 1 | some f => f.prescaler
    let a := s.car.axis.get b
    let e := if d = .forward then a.edges + 1 else a.edges - 1
    let n : Axis := if e = p then ⟨min 65535 (a.pos + 1), 0⟩ else if e = -p then ⟨a.pos - 1, 0⟩ else ⟨a.pos, e⟩
    (-p < a.edges) → a.edges < p → a.pos ≤ 65535 → ∃ t, exec (.quadratureEdge b d) s = .next t ∧ t.car.axis.get b = n ∧
      (∀ c, c ≠ b → t.car.axis.get c = s.car.axis.get c) ∧
      { t with car := s.car, pins := s.pins, notices := s.notices, alarm := s.alarm, prof := s.prof, eng := s.eng,
               std := s.std, sheet := s.sheet, ord := s.ord } = s ∧
      (n.pos = a.pos ∨ s.car.valid = false ∨ s.car.traverse = .halted ∨ s.car.traverse = .faulted →
        t = driveLines { s with car := { s.car with axis := s.car.axis.set b n } })) ∧
  (∀ (s : State) (b : Beam) (d : Direction) (f : FrameRecord), Settled s → s.phase ≠ .held → s.car.frame = some f →
    s.car.valid = true → s.car.traverse ≠ .halted → s.car.traverse ≠ .faulted →
    let z : State := { s with car := { s.car with axis := s.car.axis.set b ((s.car.axis.get b).edge f.prescaler d) } }
    (z.car.axis.get b).pos ≠ (s.car.axis.get b).pos →
    f.skewFault < ((z.car.axis.upper.pos : Int) - z.car.axis.lower.pos).natAbs →
    ∃ t, exec (.quadratureEdge b d) s = .next t ∧ FaultEntered z t .alignment)

/-- Within skew_fault a position event of a move first lets the carriage arrive at or past the target, ending its hold; then a
skew beyond skew_hold holds the leading carriage unless it has arrived, and one within half of it, rounded down, ends the
holds, faulting a held carriage whose DRV_OK is low (R7, R9, R27). The move goes on: not both carriages have arrived. The
order in which cards ended together are answered is the model's choice (log 35). What a close does while a choice of a
page is under way, and the moment of its copy, are the model's choice (log 8). -/
def Obligations.PositionEventsArriveAndHold : Prop :=
  ∀ (s : State) (b : Beam) (d : Direction) (f : FrameRecord) (m : Move), Settled s → s.phase ≠ .held →
    s.car.frame = some f → s.car.valid = true → s.car.traverse ≠ .halted → s.car.traverse ≠ .faulted →
    s.car.move = some m → m.purpose ≠ .seek →
    let axis := s.car.axis.set b ((s.car.axis.get b).edge f.prescaler d)
    let skew : Int := (axis.upper.pos : Int) - axis.lower.pos
    let reached := m.arrived.get b = false ∧
      if m.dir = .forward then m.target ≤ (axis.get b).pos else (axis.get b).pos ≤ m.target
    let m1 : Move := if reached then { m with arrived := m.arrived.set b true, held := m.held.set b false } else m
    let lead : Beam := if m.dir = .forward then (if 0 < skew then .upper else .lower) else (if skew < 0 then .upper else .lower)
    let fails := ∃ c, m1.held.get c = true ∧ m1.arrived.get c = false ∧ (s.inputs.get c).drvOk = false
    let after : Move → State := fun m2 => driveLines { s with car := { s.car with axis := axis, move := some m2 } }
    (axis.get b).pos ≠ (s.car.axis.get b).pos → skew.natAbs ≤ f.skewFault → (∃ c, m1.arrived.get c = false) →
    (f.skewHold < skew.natAbs → exec (.quadratureEdge b d) s =
      .next (after (if m1.arrived.get lead = true then m1 else { m1 with held := m1.held.set lead true }))) ∧
    (skew.natAbs ≤ f.skewHold → f.skewHold / 2 < skew.natAbs → exec (.quadratureEdge b d) s = .next (after m1)) ∧
    (skew.natAbs ≤ f.skewHold / 2 → ¬fails → exec (.quadratureEdge b d) s =
      .next (after { m1 with held := ⟨false, false⟩ })) ∧
    (skew.natAbs ≤ f.skewHold / 2 → fails → ∃ t, exec (.quadratureEdge b d) s = .next t ∧
      FaultEntered { s with car := { s.car with axis := axis, move := some m1 } } t .driveNotReady)

/-- The arrival of the second carriage ends the move, and its purpose decides what follows: a POINT move stands at
SINGLE_POINT and answers MOVE_TO with the upper position, a PARK move and homing's last move stand PARKED and answer their
card, a PROBE move holds, a BREAK_RETURN and a RETURN move bring the park decision, a TRAVERSE move closes its scan
COMPLETE with all its hand-offs and then begins a dwell that is due or brings the park decision (R7, R14, R17, R18, R20,
R21, R24, R75, R84, R114). A move that the decision starts is held at once where the skew is beyond skew_hold (R10, log
29). A break that is due as a TRAVERSE move arrives is taken after the close and makes no request, and the decision finds
the sheet OFF (R138; two of them: log 44). A traverse that starts does not begin beyond the park it goes to. The order in
which cards ended together are answered is the model's choice (log 35). What a close does while a choice of a page is
under way, and the moment of its copy, are the model's choice (log 8). -/
def Obligations.ArrivalsEndMoves : Prop :=
  ∀ (s : State) (b : Beam) (d : Direction) (f : FrameRecord) (m : Move) (side : Side), Settled s → s.phase ≠ .held →
    s.car.frame = some f → s.car.valid = true → s.car.traverse.stands = false → s.car.move = some m →
    (∀ c, c ≠ b → m.arrived.get c = true) → m.arrived.get b = false →
    let axis := s.car.axis.set b ((s.car.axis.get b).edge f.prescaler d)
    (axis.get b).pos ≠ (s.car.axis.get b).pos → ((axis.upper.pos : Int) - axis.lower.pos).natAbs ≤ f.skewFault →
    (if m.dir = .forward then m.target ≤ (axis.get b).pos else (axis.get b).pos ≤ m.target) →
    let stand : Traverse → CarriageController := fun v =>
      { s.car with axis := axis, traverse := v, move := none, long := none, newer := none }
    (m.purpose = .point → ∃ t, exec (.quadratureEdge b d) s = .next t ∧ t.car = stand (.singlePoint m.target) ∧
      t.ord.answers = s.ord.answers ++ longAnswer s .ok (BitVec.ofNat 32 axis.upper.pos)) ∧
    (m.purpose = .park side → ∃ t, exec (.quadratureEdge b d) s = .next t ∧ t.car = stand (.parked side) ∧
      t.notices &&& Notice.traverse.bit ≠ 0 ∧ t.ord.answers = s.ord.answers ++ waitingStd s ++ longAnswer s .ok 0) ∧
    (m.purpose = .parkHome → ∃ t, exec (.quadratureEdge b d) s = .next t ∧
      t.car = { stand (.parked .tending) with cause := none } ∧ t.notices &&& Notice.traverse.bit ≠ 0 ∧
      (t.alarm.entry .alignment).condition = false ∧ (t.alarm.entry .travel).condition = false ∧
      EntriesKept s t [.alignment, .travel] ∧ t.ord.answers = s.ord.answers ++ waitingStd s ++ longAnswer s .ok 0) ∧
    (m.purpose = .probe → ∃ t, exec (.quadratureEdge b d) s = .next t ∧ t.ord = s.ord ∧
      t.car = { s.car with axis := axis, traverse := .probing true, move := none }) ∧
    (let sk : Int := (axis.upper.pos : Int) - axis.lower.pos
     let hold : Move → Move := fun n =>
       let lead : Beam := if n.dir = .forward then (if 0 < sk then .upper else .lower) else (if sk < 0 then .upper else .lower)
       if f.skewHold < sk.natAbs ∧ n.arrived.get lead = false then { n with held := n.held.set lead true } else n
     let z : SheetMonitor → State := fun x => { s with car := { s.car with axis := axis, move := none }, sheet := x }
     (m.purpose = .breakReturn side ∧ s.car.traverse = .breakPark side ∨
        m.purpose = .returning side ∧ s.car.traverse = .positioning .returning →
      ∃ t, exec (.quadratureEdge b d) s = .next t ∧ ParkDecided (z s.sheet) t side f hold) ∧
     (∀ sc v, m.purpose = .traverse side → s.car.traverse = .scanning v → s.prof.openScan = some sc →
      let sample : Bool := decide (s.sheet.sampleDue = true ∧ s.eng.forming = none)
      let dwells : State → Prop := fun t => t.prof.openScan = none ∧ t.ord = s.ord ∧
        t.car = { s.car with axis := axis, traverse := .standardizing side, move := none } ∧
        t.std = { s.std with dwell := some ⟨s.std.settings.dwell, s.std.settings.min, 0, ⟨⟨0, 0⟩, ⟨0, 0⟩, ⟨0, 0⟩⟩⟩ }
      (sample = false → s.sheet.externalDue = false →
        (if side = .tending then axis.upper.pos < f.parkDrive else f.parkTend < axis.upper.pos) →
        ∃ t r, exec (.quadratureEdge b d) s = .next t ∧ ScanCompleted s t sc r ∧ (s.std.due = true → dwells t) ∧
          (s.std.due = false → ParkDecided (z t.sheet) t side f hold ∧
            (t.car.traverse.isScanning = false → t.prof.openScan = none ∧ t.prof.settings = s.prof.settings))) ∧
      (sample = true ∨ s.sheet.externalDue = true → ∃ m t r, exec (.quadratureEdge b d) s = .next t ∧
        ScanCompleted s m sc r ∧ BreaksAfterArrival m t sample ∧ t.sheet.state = .off ∧
        (s.std.due = true → dwells t ∧ EntriesKept m t [.edge, .wetStreak, .sheetBreak]) ∧
        (s.std.due = false → ParkDecided (z t.sheet) t side f hold))))

/-- The events that fault a traverse not FAULTED yet: the move timer at move_timeout, a limit that becomes asserted on a
carriage moving toward it, FRAME_OK falling with positions valid or in HOMING, DRV_OK falling on a carriage whose RUN is
asserted. Otherwise the line's level is followed and nothing else acts. In FAULTED none of them acts, and the cause stays
(R8, R25, R26, R27, R28). The order in which cards ended together are answered is the model's choice (log 35). What a
close does while a choice of a page is under way, and the moment of its copy, are the model's choice (log 8). -/
def Obligations.FrameFaultsStopTheTraverse : Prop :=
  ∀ (s : State) (b : Beam) (l : Limit) (v : Bool), Settled s → s.phase = .running →
    let late := ∃ m f, s.car.move = some m ∧ s.car.frame = some f ∧ f.moveTimeout ≤ m.timer
    let toward : Direction := if l = .tending then .reverse else .forward
    let was := if l = .tending then (s.inputs.get b).limT else (s.inputs.get b).limD
    let hits := v = true ∧ was = false ∧ ∃ m, s.car.move = some m ∧ m.dir = toward ∧ m.arrived.get b = false
    let i := s.inputs.get b
    let lim : State := { s with inputs := s.inputs.set b (if l = .tending then { i with limT := v } else { i with limD := v }) }
    let frm : State := { s with frameOk := !v }
    let drv : State := { s with inputs := s.inputs.set b { i with drvOk := !v } }
    (s.car.traverse = .faulted → exec .moveTimeout s = .next s ∧ exec (.limitSwitch b l v) s = .next lim ∧
      exec (.frameOkLow v) s = .next frm ∧ exec (.drvOkLow b v) s = .next (driveLines drv)) ∧
    (s.car.traverse ≠ .faulted →
    (late → ∃ t, exec .moveTimeout s = .next t ∧ FaultEntered s t .travelTimeout) ∧
    (¬late → exec .moveTimeout s = .next s) ∧
    (hits → ∃ t, exec (.limitSwitch b l v) s = .next t ∧ FaultEntered lim t .travelLimit) ∧
    (¬hits → exec (.limitSwitch b l v) s = .next lim) ∧
    (v = true ∧ s.frameOk = true ∧ (s.car.valid = true ∨ s.car.traverse.isHoming = true) →
      ∃ t, exec (.frameOkLow v) s = .next t ∧ FaultEntered frm t .interlock) ∧
    (¬(v = true ∧ s.frameOk = true ∧ (s.car.valid = true ∨ s.car.traverse.isHoming = true)) →
      exec (.frameOkLow v) s = .next frm) ∧
    (v = true ∧ s.pins.run.get b = true → ∃ t, exec (.drvOkLow b v) s = .next t ∧ FaultEntered drv t .driveNotReady) ∧
    (¬(v = true ∧ s.pins.run.get b = true) → exec (.drvOkLow b v) s = .next (driveLines drv)))

/-- HOME becoming active on a carriage that seeks zeroes it; with the other carriage zeroed already the positions become valid
and the move to park_tend starts, unless its checks fail. At any other time only the level is followed (R14). -/
def Obligations.HomeSwitchZeroesASeekingCarriage : Prop :=
  ∀ (s : State) (b : Beam) (v : Bool) (f : FrameRecord), Settled s → s.phase = .running → s.car.frame = some f →
    let seeks := v = true ∧ (s.inputs.get b).home = false ∧ ∃ m, s.car.move = some m ∧ m.purpose = .seek ∧ m.arrived.get b = false
    let inputs := s.inputs.set b { s.inputs.get b with home := v }
    let axis := s.car.axis.set b ⟨0, 0⟩
    (¬seeks → exec (.homeSwitch b v) s = .next { s with inputs := inputs }) ∧
    (∀ m, seeks → s.car.move = some m → (∃ c, c ≠ b ∧ m.arrived.get c = false) → exec (.homeSwitch b v) s =
      .next (driveLines { s with
        inputs := inputs
        car := { s.car with axis := axis, move := some { m with arrived := m.arrived.set b true } } })) ∧
    (∀ m, seeks → s.car.move = some m → (∀ c, c ≠ b → m.arrived.get c = true) → s.frameOk = true →
      (∀ c, (s.inputs.get c).drvOk = true ∧ (s.inputs.get c).limT = false ∧ (s.inputs.get c).limD = false) →
      (∀ c, c ≠ b → s.car.axis.get c = ⟨0, 0⟩) → 0 < f.parkTend → exec (.homeSwitch b v) s =
      .next (driveLines { s with
        inputs := inputs
        car := { s.car with
          axis := axis
          valid := true
          traverse := .homing .parkHome
          move := some ⟨.parkHome, f.parkTend, .forward, ⟨false, false⟩, ⟨false, false⟩, 0⟩ } })) ∧
    (∀ m, seeks → s.car.move = some m → (∀ c, c ≠ b → m.arrived.get c = true) → s.frameOk = true →
      (∀ c, (s.inputs.get c).drvOk = true) → (∃ c, (s.inputs.get c).limT = true ∨ (s.inputs.get c).limD = true) →
      ∃ t, exec (.homeSwitch b v) s = .next t ∧ t.car.traverse = .faulted ∧ t.car.cause = some .travelLimit ∧
        t.car.valid = true ∧ t.car.axis = axis ∧ t.car.move = none ∧ (t.alarm.entry .travel).condition = true)

/-! ## Orders of the carriage controller -/

/-- SET_FRAME in HALTED or PARKED replaces the record whole. A new geometry clears the filters, the edges record and the
streak list; another prescaler empties both edge accumulators and, with positions valid, invalidates them, a PARKED
traverse entering HALTED. The result value tells the two. In any other state it is BUSY (R1, R85, R105, R147). That the
plan in force and the pending plan are kept when PARKED enters HALTED is the model's choice (log 21). The order in which
cards ended together are answered is the model's choice (log 35). -/
def Obligations.SetFrameReplacesTheRecord : Prop :=
  ∀ (s : State) (slot : Slot) (r : FrameRecord), CardFree s slot → Passes slot (.setFrame r) →
    let standing := s.car.traverse = .halted ∨ ∃ x, s.car.traverse = .parked x
    let same : FrameRecord → Prop := fun f => f.bin0Pos = r.bin0Pos ∧ f.binW = r.binW ∧ f.nbins = r.nbins
    let geo := ∀ f, s.car.frame = some f → ¬same f
    let pre := r.prescaler ≠ (match s.car.frame with | none => 1 | some f => f.prescaler)
    (¬standing → ∃ t, exec (.setFrame slot r) s = .next t ∧ OrderLeaves s t slot (.setFrame r) [answerOf slot .busy 0] s) ∧
    (standing → ∃ (t : State) (v : Word) (out : List Answer), exec (.setFrame slot r) s = .next t ∧
      CardAnswered s t slot (.setFrame r) (out ++ [answerOf slot .ok v]) ∧
      (geo → v &&& 1 = 1) ∧ (¬geo → v &&& 1 = 0) ∧ (pre ∧ s.car.valid = true → v &&& 2 = 2) ∧
      (¬(pre ∧ s.car.valid = true) → v &&& 2 = 0 ∧ out = []) ∧ v &&& ~~~3 = 0 ∧
      (pre → s.car.valid = true → out = if s.car.traverse = .halted then [] else waitingStd s) ∧
      t.car = { s.car with
        frame := some r
        axis := t.car.axis
        valid := t.car.valid
        traverse := t.car.traverse } ∧
      (pre → t.car.axis = ⟨⟨s.car.axis.upper.pos, 0⟩, ⟨s.car.axis.lower.pos, 0⟩⟩ ∧ t.car.valid = false) ∧
      (¬pre → t.car.axis = s.car.axis ∧ t.car.valid = s.car.valid) ∧
      (pre ∧ s.car.valid = true → t.car.traverse = .halted) ∧ (¬(pre ∧ s.car.valid = true) → t.car.traverse = s.car.traverse) ∧
      (pre → s.car.valid = true → s.car.traverse ≠ .halted → t.notices &&& Notice.traverse.bit ≠ 0) ∧
      (geo → t.prof = { s.prof with
          table := ⟨List.replicate r.nbins ⟨0, 255, false⟩, List.replicate r.nbins ⟨0, 255, false⟩,
            List.replicate r.nbins ⟨0, 255, false⟩, List.replicate r.nbins ⟨0, 255, false⟩⟩
          mdf := ⟨0, 0, 0, 0⟩
          sourceScan := 0
          reseed := true
          edges := none } ∧
        t.sheet = { s.sheet with streaks := [], more := false } ∧ (t.alarm.entry .edge).condition = false ∧
        (t.alarm.entry .wetStreak).condition = false) ∧
      (¬geo → t.prof = s.prof ∧ t.sheet = s.sheet ∧ t.alarm = s.alarm) ∧ EntriesKept s t [.edge, .wetStreak] ∧
      { withoutCard s t with
        car := s.car, prof := s.prof, sheet := s.sheet, alarm := s.alarm, notices := s.notices, pins := s.pins, std := s.std } = s)

/-- HOME: refused without a frame record and in a state that does not take it; failing its checks it is abandoned with the
traverse FAULTED; else the positions become invalid and both carriages seek their home switches in reverse, one that
stands on its switch zeroed at once, and the card is held (R13, R14). With both on their switches the move to park_tend
starts at once, fails where a limit is asserted, and ends at once where park_tend is 0. That a HOME taken keeps the plan
in force and the pending plan is the model's choice (log 21). The order in which cards ended together are answered is the
model's choice (log 35). -/
def Obligations.HomeSeeksTheSwitches : Prop :=
  ∀ (s : State) (slot : Slot), CardFree s slot → Passes slot .home →
    let takes := s.car.traverse = .halted ∨ s.car.traverse = .faulted ∨ ∃ x, s.car.traverse = .parked x
    let u := s.inputs.upper
    let l := s.inputs.lower
    let blocked := u.limT = true ∧ u.home = false ∨ l.limT = true ∧ l.home = false
    let drives := u.drvOk = true ∧ l.drvOk = true
    (s.car.frame = none → ∃ t, exec (.home slot) s = .next t ∧ OrderLeaves s t slot .home [answerOf slot .notReady 0] s) ∧
    (s.car.frame ≠ none → ¬takes → ∃ t, exec (.home slot) s = .next t ∧
      OrderLeaves s t slot .home [answerOf slot .busy 0] s) ∧
    (s.car.frame ≠ none → takes → s.frameOk = true → drives → ¬blocked → ¬(u.home = true ∧ l.home = true) →
      ∃ t, exec (.home slot) s = .next t ∧ OrderLeaves s t slot .home [] { s with car := { s.car with
        valid := false
        traverse := .homing .seek
        long := some ⟨.home, slot⟩
        newer := none
        axis := ⟨if u.home then ⟨0, 0⟩ else s.car.axis.upper, if l.home then ⟨0, 0⟩ else s.car.axis.lower⟩
        move := some ⟨.seek, 0, .reverse, ⟨u.home, l.home⟩, ⟨false, false⟩, 0⟩ } }) ∧
    (∀ f, s.car.frame = some f → takes → s.frameOk = true → drives → u.home = true → l.home = true → 0 < f.parkTend →
      u.limT = false → u.limD = false → l.limT = false → l.limD = false → ∃ t, exec (.home slot) s = .next t ∧
      OrderLeaves s t slot .home [] { s with car := { s.car with
        valid := true
        traverse := .homing .parkHome
        long := some ⟨.home, slot⟩
        newer := none
        axis := ⟨⟨0, 0⟩, ⟨0, 0⟩⟩
        move := some ⟨.parkHome, f.parkTend, .forward, ⟨false, false⟩, ⟨false, false⟩, 0⟩ } }) ∧
    (∀ c, s.car.frame ≠ none → takes → (c = .interlock ∧ s.frameOk = false ∨
        c = .driveNotReady ∧ s.frameOk = true ∧ ¬drives ∨ c = .travelLimit ∧ s.frameOk = true ∧ drives ∧ blocked) →
      ∃ t, exec (.home slot) s = .next t ∧
        CardAnswered s t slot .home ([endedOf slot .abandoned 0] ++ waitingStd s) ∧
        t.car = { s.car with valid := false, traverse := .faulted, cause := some c, move := none, long := none,
                             newer := none, plan := .empty, nextPlan := none } ∧
        (t.alarm.entry .travel).condition = true ∧ EntriesKept s t [.travel] ∧ t.notices &&& Notice.traverse.bit ≠ 0) ∧
    (∀ f, s.car.frame = some f → takes → s.frameOk = true → drives → u.home = true → l.home = true →
      (u.limT = true ∨ u.limD = true ∨ l.limT = true ∨ l.limD = true → ∃ t, exec (.home slot) s = .next t ∧
        CardAnswered s t slot .home ([endedOf slot .abandoned 0] ++ waitingStd s) ∧
        t.car = { s.car with valid := true, axis := ⟨⟨0, 0⟩, ⟨0, 0⟩⟩, traverse := .faulted, cause := some .travelLimit,
                             move := none, long := none, newer := none, plan := .empty, nextPlan := none } ∧
        (t.alarm.entry .travel).condition = true ∧ EntriesKept s t [.travel] ∧ t.notices &&& Notice.traverse.bit ≠ 0) ∧
      (f.parkTend = 0 → u.limT = false → u.limD = false → l.limT = false → l.limD = false → ∃ t, exec (.home slot) s = .next t ∧
        CardAnswered s t slot .home (waitingStd s ++ [endedOf slot .ok 0]) ∧
        t.car = { s.car with valid := true, axis := ⟨⟨0, 0⟩, ⟨0, 0⟩⟩, traverse := .parked .tending, cause := none,
                             move := none, long := none, newer := none } ∧
        (t.alarm.entry .alignment).condition = false ∧ (t.alarm.entry .travel).condition = false ∧
        EntriesKept s t [.alignment, .travel] ∧ t.notices &&& Notice.traverse.bit ≠ 0))

/-- SCAN in PARKED with the sheet not OFF starts a traverse to the other park: the scan number rises, the plan is counted, the
traverse is counted against the interval, pending settings come into force, a scan is opened with empty bins, and the card
ends with the new number. A failed start faults the traverse, abandons the card and does nothing else of the start (R6,
R15, R16, R50, R74, R89, R110). The order in which cards ended together are answered is the model's choice (log 35).
SCAN in every other state: pending in SCANNING, the plan in force in STANDARDIZING, BREAK_PARK, PROBING and
POSITIONING(RETURN), both with scan number plus 1; the park decision in PARKED with the sheet OFF; BUSY or NOT_READY
elsewhere (R15, R18). -/
def Obligations.ScanByState : Prop :=
  (∀ (s : State) (slot : Slot) (n : Nat) (side : Side) (f : FrameRecord), CardFree s slot → Passes slot (.scan n) →
    s.car.traverse = .parked side → s.sheet.state ≠ .off → s.car.frame = some f →
    let dir : Direction := if side = .tending then .forward else .reverse
    let far : Side := if side = .tending then .drive else .tending
    let target := if side = .tending then f.parkDrive else f.parkTend
    let u := s.car.axis.upper.pos
    let plan : Plan := if n = 0 then .continuous else .remaining (n - 1)
    let count := if s.std.count < 255 then s.std.count + 1 else 255
    let due : Bool := s.std.due || decide (s.std.settings.interval ≠ 0 ∧ s.std.settings.interval ≤ count)
    let settings := match s.prof.nextSettings with | none => s.prof.settings | some v => v
    let changes : Nat := (if s.eng.nextCal.mass.isSome then 1 else 0) + (if s.eng.nextCal.water.isSome then 1 else 0) +
      (if s.eng.nextCal.cal.isSome then 1 else 0)
    (StartChecks s → (if dir = .forward then u < target else target < u) → ∃ t, exec (.scan slot n) s = .next t ∧
      CardAnswered s t slot (.scan n) [answerOf slot .ok (s.prof.scanNumber + 1)] ∧
      t.car = { s.car with
        plan := plan
        traverse := .scanning dir
        move := some ⟨.traverse far, target, dir, ⟨false, atOrPast dir s.car.axis.lower.pos target⟩, ⟨false, false⟩, 0⟩ } ∧
      t.std = { s.std with count := count, due := due } ∧
      (∀ q, t.eng.cal.get q = { s.eng.cal.get q with
        values := match s.eng.nextCal.get q with | none => (s.eng.cal.get q).values | some v => v }) ∧
      t.eng.nextCal = ⟨none, none, none⟩ ∧ t.eng.calGen = s.eng.calGen + BitVec.ofNat 16 changes ∧
      t.eng.accs = List.replicate f.nbins ⟨⟨⟨0, 0⟩, ⟨0, 0⟩, ⟨0, 0⟩⟩, false, false⟩ ∧ t.eng.openBin = none ∧ t.eng.binsDone = 0 ∧
      t.prof = { s.prof with
        scanNumber := s.prof.scanNumber + 1
        settings := settings
        nextSettings := none
        openScan := some ⟨s.prof.scanNumber + 1, dir, s.time.tick, t.eng.calGen, s.std.zeroGen,
          ⟨f.bin0Pos, f.binW, f.nbins⟩, settings, false, List.replicate f.nbins BinResult.notReached⟩ } ∧
      { t.eng with cal := s.eng.cal, nextCal := s.eng.nextCal, calGen := s.eng.calGen, accs := s.eng.accs,
                   openBin := s.eng.openBin, binsDone := s.eng.binsDone } = s.eng ∧
      { withoutCard s t with car := s.car, std := s.std, eng := s.eng, prof := s.prof, pins := s.pins } = s) ∧
    (∀ c, StartFails s c → ∃ t, exec (.scan slot n) s = .next t ∧
      CardAnswered s t slot (.scan n) (longAnswer s .abandoned 0 ++ waitingStd s ++ [answerOf slot .abandoned 0]) ∧
      t.car = { s.car with traverse := .faulted, cause := some c, move := none, long := none,
                           newer := none, plan := .empty, nextPlan := none } ∧
      (t.alarm.entry c.alarm).condition = true ∧ t.notices &&& Notice.traverse.bit ≠ 0 ∧ t.prof = s.prof ∧ t.eng = s.eng ∧
      { t.std with card := s.std.card } = s.std)) ∧
  (∀ (s : State) (slot : Slot) (n : Nat) (f : FrameRecord), CardFree s slot → Passes slot (.scan n) →
    let stops := ∃ l, s.car.underWay = some l ∧ (l.kind = .stopEnd ∨ l.kind = .stopNow)
    let plan : Plan := if n = 0 then .continuous else .remaining n
    let later := answerOf slot .ok (s.prof.scanNumber + 1)
    let stays := s.car.traverse.isStandardizing = true ∨ (∃ x, s.car.traverse = .breakPark x) ∨
      (∃ h, s.car.traverse = .probing h) ∨ s.car.traverse = .positioning .returning
    let busy := s.car.traverse.isHoming = true ∨ s.car.traverse = .positioning .point ∨ s.car.traverse = .positioning .park ∨
      (∃ x, s.car.traverse = .singlePoint x) ∨ s.car.traverse.isScanning = true ∧ stops
    (s.car.frame = none → ∃ t, exec (.scan slot n) s = .next t ∧
      OrderLeaves s t slot (.scan n) [answerOf slot .notReady 0] s) ∧
    (s.car.frame = some f →
      (s.car.traverse = .halted ∨ s.car.traverse = .faulted → ∃ t, exec (.scan slot n) s = .next t ∧
        OrderLeaves s t slot (.scan n) [answerOf slot .notReady 0] s) ∧
      (busy → ∃ t, exec (.scan slot n) s = .next t ∧ OrderLeaves s t slot (.scan n) [answerOf slot .busy 0] s) ∧
      (stays → ∃ t, exec (.scan slot n) s = .next t ∧
        OrderLeaves s t slot (.scan n) [later] { s with car := { s.car with plan := plan, nextPlan := none } }) ∧
      (s.car.traverse.isScanning = true → ¬stops → ∃ t, exec (.scan slot n) s = .next t ∧
        OrderLeaves s t slot (.scan n) [later] { s with car := { s.car with nextPlan := some plan } }) ∧
      (∀ side, s.car.traverse = .parked side → s.sheet.state = .off → s.car.nextPlan = none → ¬stops → s.car.move = none →
        (s.sheet.settings.resumeMode ≠ 0 → ∃ t, exec (.scan slot n) s = .next t ∧
          OrderLeaves s t slot (.scan n) [later] { s with car := { s.car with plan := plan } }) ∧
        (s.sheet.settings.resumeMode = 0 → StartChecks s → f.probePos ≠ s.car.axis.upper.pos →
          let dir : Direction := if f.probePos < s.car.axis.upper.pos then .reverse else .forward
          ∃ t, exec (.scan slot n) s = .next t ∧ OrderLeaves s t slot (.scan n) [later] { s with car := { s.car with
            plan := plan
            traverse := .probing false
            move := some ⟨.probe, f.probePos, dir, ⟨false, atOrPast dir s.car.axis.lower.pos f.probePos⟩,
              ⟨false, false⟩, 0⟩ } }))))

/-- STOP END by traverse state: held in SCANNING, STANDARDIZING and BREAK_PARK, DONE at once in PARKED, STOP NOW in
POSITIONING, SINGLE_POINT and PROBING, refused elsewhere and while a STOP is in flight (R21). That a STOP END taken as
STOP NOW is held as STOP NOW is the model's choice (log 12).
STOP NOW by traverse state, both plans cleared: it supersedes a STOP END, parks the carriages from SCANNING, POSITIONING,
SINGLE_POINT and PROBING, gives up a dwell, ends homing in HALTED, waits in BREAK_PARK, and is refused in HALTED and
FAULTED and behind another STOP NOW (R20, R22, R123). A park that both carriages stand at or past ends the move at its
start; a start that fails faults the traverse and abandons the card (R6, R22, R28). An older card that it ends, a STOP END
superseded, another long order or the dwell's STANDARDIZE card abandoned, has its answer decided first and holds the
long-order slot until it is written, and then the STOP NOW takes the slot (R12, R212; that the effects begin with TAKEN:
log 43). The order in which cards ended together are answered is the model's choice (log 35). What a close does while a
choice of a page is under way, and the moment of its copy, are the model's choice (log 8). -/
def Obligations.StopByTraverseState : Prop :=
  (∀ (s : State) (slot : Slot), CardFree s slot → Passes slot (.stop 0) →
    let stops := ∃ l, s.car.underWay = some l ∧ (l.kind = .stopEnd ∨ l.kind = .stopNow)
    let stopped := s.car.traverse = .halted ∨ s.car.traverse = .faulted
    let holds := s.car.traverse.isScanning = true ∨ s.car.traverse.isStandardizing = true
    let now := (∃ p, s.car.traverse = .positioning p) ∨ (∃ p, s.car.traverse = .singlePoint p) ∨
      ∃ h, s.car.traverse = .probing h
    (stopped → ∃ t, exec (.stopEnd slot) s = .next t ∧ OrderLeaves s t slot (.stop 0) [answerOf slot .notReady 0] s) ∧
    (¬stopped → stops ∨ s.car.traverse.isHoming = true → ∃ t, exec (.stopEnd slot) s = .next t ∧
      OrderLeaves s t slot (.stop 0) [answerOf slot .busy 0] s) ∧
    (holds → ¬stops → ∃ t, exec (.stopEnd slot) s = .next t ∧ OrderLeaves s t slot (.stop 0) []
      { s with car := { s.car with long := some ⟨.stopEnd, slot⟩, newer := none, nextPlan := none } }) ∧
    (∀ side, s.car.traverse = .breakPark side → ¬stops → ∃ t, exec (.stopEnd slot) s = .next t ∧
      OrderLeaves s t slot (.stop 0) [] { s with car := { s.car with long := some ⟨.stopEnd, slot⟩, newer := none } }) ∧
    (∀ side, s.car.traverse = .parked side → ¬stops → ∃ t, exec (.stopEnd slot) s = .next t ∧
      OrderLeaves s t slot (.stop 0) [answerOf slot .ok 0] { s with car := { s.car with plan := .empty } }) ∧
    (now → ¬stops → exec (.stopEnd slot) s = exec (.stopNow slot) s)) ∧
  (∀ (s : State) (slot : Slot), CardFree s slot → Passes slot (.stop 1) →
    let taken := ∃ l, s.car.underWay = some l ∧ l.kind = .stopNow
    let stopped := s.car.traverse = .halted ∨ s.car.traverse = .faulted
    let clear : CarriageController := { s.car with plan := .empty, nextPlan := none }
    let older : List Answer := match s.car.underWay with
      | none => []
      | some l => [endedOf l.slot (if l.kind = .stopEnd then .superseded else .abandoned) 0]
    let held : CarriageController := match s.car.underWay with
      | none => { clear with long := some ⟨.stopNow, slot⟩, newer := none }
      | some l => { clear with long := some l, newer := some ⟨.stopNow, slot⟩ }
    let ended : List Answer × CarriageController := match s.car.underWay with
      | some ⟨.stopEnd, x⟩ => ([endedOf x .superseded 0], { clear with long := none, newer := none })
      | _ => ([], clear)
    let parks := s.car.traverse.isScanning = true ∨ (∃ p, s.car.traverse = .positioning p) ∨
      (∃ p, s.car.traverse = .singlePoint p) ∨ ∃ h, s.car.traverse = .probing h
    (stopped → ∃ t, exec (.stopNow slot) s = .next t ∧ OrderLeaves s t slot (.stop 1) [answerOf slot .notReady 0] s) ∧
    (¬stopped → taken → ∃ t, exec (.stopNow slot) s = .next t ∧ OrderLeaves s t slot (.stop 1) [answerOf slot .busy 0] s) ∧
    (∀ f, parks → ¬taken → s.car.frame = some f → StartChecks s →
      let pos := s.car.axis.upper.pos
      let side : Side := if (if pos ≤ f.parkDrive then f.parkDrive - pos else pos - f.parkDrive) <
        (if pos ≤ f.parkTend then f.parkTend - pos else pos - f.parkTend) then .drive else .tending
      let target := if side = .drive then f.parkDrive else f.parkTend
      let dir : Direction := if target < pos then .reverse else .forward
      let there : PerBeam Bool := ⟨atOrPast dir pos target, atOrPast dir s.car.axis.lower.pos target⟩
      let closed : State → Prop := fun t =>
        (s.car.traverse.isScanning = false → t.prof = s.prof ∧ t.eng = s.eng ∧ t.alarm = s.alarm) ∧
        (s.car.traverse.isScanning = true → ScanAborted s t .stop)
      (there ≠ ⟨true, true⟩ → ∃ t, exec (.stopNow slot) s = .next t ∧
        CardAnswered s t slot (.stop 1) older ∧ closed t ∧
        t.car = { held with
          traverse := .positioning .park
          move := some ⟨.park side, target, dir, there, ⟨false, false⟩, 0⟩ }) ∧
      (there = ⟨true, true⟩ → ∃ t, exec (.stopNow slot) s = .next t ∧
        CardAnswered s t slot (.stop 1) (older ++ waitingStd s ++ [endedOf slot .ok 0]) ∧ closed t ∧
        t.car = { clear with traverse := .parked side, long := none, newer := none, move := none } ∧
        t.notices &&& Notice.traverse.bit ≠ 0)) ∧
    (∀ k, parks → ¬taken → StartFails s k → ∃ t, exec (.stopNow slot) s = .next t ∧
      CardAnswered s t slot (.stop 1) (older ++ [endedOf slot .abandoned 0] ++ waitingStd s) ∧
      t.car = { clear with traverse := .faulted, cause := some k, move := none, long := none, newer := none } ∧
      (s.car.traverse.isScanning = true → ScanAborted s t .stop) ∧
      (s.car.traverse.isScanning = false → t.prof = s.prof ∧ t.eng = s.eng) ∧
      (t.alarm.entry k.alarm).condition = true ∧ t.notices &&& Notice.traverse.bit ≠ 0 ∧
      { t.std with card := s.std.card } = s.std) ∧
    (∀ side, s.car.traverse = .standardizing side → ¬taken → ∃ t, exec (.stopNow slot) s = .next t ∧
      CardAnswered s t slot (.stop 1) (ended.1 ++ dwellStd s ++ waitingStd s ++ [answerOf slot .ok 0]) ∧
      t.car = { ended.2 with traverse := .parked side } ∧ t.std = { s.std with dwell := none, card := none } ∧ t.eng = s.eng ∧
      t.notices = s.notices ||| Notice.traverse.bit) ∧
    (∀ side, s.car.traverse = .parked side → ¬taken → ∃ t, exec (.stopNow slot) s = .next t ∧
      OrderLeaves s t slot (.stop 1) (ended.1 ++ [answerOf slot .ok 0]) { s with car := ended.2 }) ∧
    (∀ side, s.car.traverse = .breakPark side → ¬taken → ∃ t, exec (.stopNow slot) s = .next t ∧
      OrderLeaves s t slot (.stop 1) older { s with car := held }) ∧
    (s.car.traverse.isHoming = true → ¬taken → ∃ t, exec (.stopNow slot) s = .next t ∧
      CardAnswered s t slot (.stop 1) (older ++ waitingStd s ++ [answerOf slot .ok 0]) ∧
      t.car = { clear with traverse := .halted, valid := false, move := none, long := none, newer := none } ∧
      t.notices &&& Notice.traverse.bit ≠ 0 ∧ t.alarm = s.alarm))

/-- MOVE_TO: refused by state, by a STOP or PARK in flight, or by a target outside the parks; else a MOVE_TO in flight is
superseded, its answer decided first, and holds the long-order slot until it is written, and then the newer one takes the
slot (R12, R212; that the effects begin with TAKEN: log 43), the plan in force cleared and a POINT move started from where
the carriages stand, which ends at once when both are there; a failed start faults the traverse and abandons the card (R6,
R19). That DIR keeps its value where the move ends at its own start is the model's choice (log 34). The order in which
cards ended together are answered is the model's choice (log 35).
PARK: from SINGLE_POINT to the nearest park, a tie to the tending side, the card held till the arrival; a start that fails
faults the traverse and abandons the card (R6, R20, R28); DONE at once in PARKED, refused elsewhere. -/
def Obligations.MoveToAndPark : Prop :=
  (∀ (s : State) (slot : Slot) (target : Nat), CardFree s slot → Passes slot (.moveTo target) →
    let stopped := s.car.traverse = .halted ∨ s.car.traverse = .faulted
    let takes := (∃ x, s.car.traverse = .parked x) ∨ (∃ p, s.car.traverse = .singlePoint p) ∨
      s.car.traverse = .positioning .point
    let waits := ∃ l, s.car.underWay = some l ∧ (l.kind = .stopEnd ∨ l.kind = .stopNow ∨ l.kind = .park)
    let u := s.car.axis.upper.pos
    let dir : Direction := if target < u then .reverse else .forward
    let at_ : PerBeam Bool := ⟨atOrPast dir u target, atOrPast dir s.car.axis.lower.pos target⟩
    let older := longAnswer s .superseded 0
    let held : CarriageController := match s.car.underWay with
      | none => { s.car with plan := .empty, long := some ⟨.moveTo, slot⟩, newer := none }
      | some l => { s.car with plan := .empty, long := some l, newer := some ⟨.moveTo, slot⟩ }
    (s.car.frame = none ∨ stopped → ∃ t, exec (.moveTo slot target) s = .next t ∧
      OrderLeaves s t slot (.moveTo target) [answerOf slot .notReady 0] s) ∧
    (∀ f, s.car.frame = some f →
      (¬stopped → ¬takes ∨ waits → ∃ t, exec (.moveTo slot target) s = .next t ∧
        OrderLeaves s t slot (.moveTo target) [answerOf slot .busy 0] s) ∧
      (takes → ¬waits → target < f.parkTend ∨ f.parkDrive < target → ∃ t, exec (.moveTo slot target) s = .next t ∧
        OrderLeaves s t slot (.moveTo target) [answerOf slot .badParam 0] s) ∧
      (takes → ¬waits → f.parkTend ≤ target → target ≤ f.parkDrive → StartChecks s →
        (at_ ≠ ⟨true, true⟩ → ∃ t, exec (.moveTo slot target) s = .next t ∧
          OrderLeaves s t slot (.moveTo target) older { s with car := { held with
            traverse := .positioning .point
            move := some ⟨.point, target, dir, at_, ⟨false, false⟩, 0⟩ } }) ∧
        (at_ = ⟨true, true⟩ → ∃ t, exec (.moveTo slot target) s = .next t ∧
          OrderLeaves s t slot (.moveTo target) (older ++ [endedOf slot .ok (BitVec.ofNat 32 u)])
            { s with car := { s.car with plan := .empty, traverse := .singlePoint target, long := none, newer := none, move := none } })) ∧
      (∀ c, takes → ¬waits → f.parkTend ≤ target → target ≤ f.parkDrive → StartFails s c →
        ∃ t, exec (.moveTo slot target) s = .next t ∧ CardAnswered s t slot (.moveTo target)
            (older ++ [endedOf slot .abandoned 0] ++ waitingStd s) ∧
          t.car = { s.car with traverse := .faulted, cause := some c, move := none, long := none,
                               newer := none, plan := .empty, nextPlan := none } ∧
          (t.alarm.entry c.alarm).condition = true))) ∧
  (∀ (s : State) (slot : Slot), CardFree s slot → Passes slot .park →
    (∀ f p, s.car.traverse = .singlePoint p → s.car.frame = some f → StartChecks s →
      let pos := s.car.axis.upper.pos
      let side : Side := if (if pos ≤ f.parkDrive then f.parkDrive - pos else pos - f.parkDrive) <
        (if pos ≤ f.parkTend then f.parkTend - pos else pos - f.parkTend) then .drive else .tending
      let target := if side = .drive then f.parkDrive else f.parkTend
      let dir : Direction := if target < pos then .reverse else .forward
      let at_ : PerBeam Bool := ⟨atOrPast dir pos target, atOrPast dir s.car.axis.lower.pos target⟩
      (at_ ≠ ⟨true, true⟩ → ∃ t, exec (.park slot) s = .next t ∧ OrderLeaves s t slot .park [] { s with car := { s.car with
        traverse := .positioning .park
        long := some ⟨.park, slot⟩
        newer := none
        move := some ⟨.park side, target, dir, at_, ⟨false, false⟩, 0⟩ } }) ∧
      (at_ = ⟨true, true⟩ → ∃ t, exec (.park slot) s = .next t ∧
        CardAnswered s t slot .park (waitingStd s ++ [endedOf slot .ok 0]) ∧
        t.car = { s.car with traverse := .parked side, long := none, newer := none, move := none } ∧
        t.notices = s.notices ||| Notice.traverse.bit)) ∧
    (∀ p k, s.car.traverse = .singlePoint p → StartFails s k → ∃ t, exec (.park slot) s = .next t ∧
      CardAnswered s t slot .park ([endedOf slot .abandoned 0] ++ waitingStd s) ∧
      t.car = { s.car with
        traverse := .faulted
        cause := some k
        move := none
        long := none
        newer := none
        plan := .empty
        nextPlan := none } ∧
      (t.alarm.entry k.alarm).condition = true ∧ t.notices &&& Notice.traverse.bit ≠ 0 ∧ t.prof = s.prof ∧ t.eng = s.eng ∧
      { t.std with card := s.std.card } = s.std) ∧
    (∀ side, s.car.traverse = .parked side → ∃ t, exec (.park slot) s = .next t ∧
      OrderLeaves s t slot .park [answerOf slot .ok 0] s) ∧
    (s.car.traverse = .halted ∨ s.car.traverse = .faulted → ∃ t, exec (.park slot) s = .next t ∧
      OrderLeaves s t slot .park [answerOf slot .notReady 0] s) ∧
    ((∀ p, s.car.traverse ≠ .singlePoint p) → (∀ x, s.car.traverse ≠ .parked x) → s.car.traverse ≠ .halted →
      s.car.traverse ≠ .faulted → ∃ t, exec (.park slot) s = .next t ∧ OrderLeaves s t slot .park [answerOf slot .busy 0] s))

/-! ## Settings and orders of the other blocks -/

/-- SET_TIMEBASE: a code out of range and the pair 0, 3 are refused BAD_PARAM; in HALTED and PARKED the two codes become the
pending setting, replacing an earlier one, DONE/OK with value 0; in any other state BUSY, the pending setting kept (R33). -/
def Obligations.SetTimebaseHoldsThePair : Prop :=
  ∀ (s : State) (slot : Slot) (tick sample : Nat), CardFree s slot → slot.val < 12 →
    let good := tick ≤ 5 ∧ sample ≤ 3 ∧ ¬(tick = 0 ∧ sample = 3)
    let standing := s.car.traverse = .halted ∨ ∃ x, s.car.traverse = .parked x
    (¬good → ∃ t, exec (.setTimebase slot tick sample) s = .next t ∧
      OrderLeaves s t slot (.setTimebase tick sample) [answerOf slot .badParam 0] s) ∧
    (good → standing → ∃ t, exec (.setTimebase slot tick sample) s = .next t ∧
      OrderLeaves s t slot (.setTimebase tick sample) [answerOf slot .ok 0]
        { s with time := { s.time with next := some (tick, sample) } }) ∧
    (good → ¬standing → ∃ t, exec (.setTimebase slot tick sample) s = .next t ∧
      OrderLeaves s t slot (.setTimebase tick sample) [answerOf slot .busy 0] s)

/-- SET_CAL in SCANNING becomes the channel's pending entry, value 1; in any other state its five values are applied at once,
the zero kept, the pending entry of the channel absent, the cal generation up by 1, value 0 (R48, R49).
SET_PROFILE in SCANNING becomes the pending record, value 1, else the settings in force at once with none pending, value
0; RESEED sets the reseed flag and tells whether it was set (R88, R104). -/
def Obligations.CalibrationAndProfileSettings : Prop :=
  (∀ (s : State) (slot : Slot) (n : Nat) (q : Channel) (v : CalValues), CardFree s slot → slot.val < 12 →
    (n = 0 ∧ q = .mass ∨ n = 1 ∧ q = .water ∨ n = 2 ∧ q = .cal) →
    (s.car.traverse.isScanning = true → ∃ t, exec (.setCal slot n v) s = .next t ∧
      OrderLeaves s t slot (.setCal n v) [answerOf slot .ok 1]
        { s with eng := { s.eng with nextCal := s.eng.nextCal.set q (some v) } }) ∧
    (s.car.traverse.isScanning = false → ∃ t, exec (.setCal slot n v) s = .next t ∧
      OrderLeaves s t slot (.setCal n v) [answerOf slot .ok 0]
        { s with eng := { s.eng with
          cal := s.eng.cal.set q ⟨v, (s.eng.cal.get q).zero⟩
          nextCal := s.eng.nextCal.set q none
          calGen := s.eng.calGen + 1 } })) ∧
  (∀ (s : State) (slot : Slot) (p : ProfileSettings), CardFree s slot →
    (Passes slot (.setProfile p) → s.car.traverse.isScanning = true → ∃ t, exec (.setProfile slot p) s = .next t ∧
      OrderLeaves s t slot (.setProfile p) [answerOf slot .ok 1] { s with prof := { s.prof with nextSettings := some p } }) ∧
    (Passes slot (.setProfile p) → s.car.traverse.isScanning = false → ∃ t, exec (.setProfile slot p) s = .next t ∧
      OrderLeaves s t slot (.setProfile p) [answerOf slot .ok 0]
        { s with prof := { s.prof with settings := p, nextSettings := none } }) ∧
    (Passes slot .reseed → ∃ t, exec (.reseed slot) s = .next t ∧
      OrderLeaves s t slot .reseed [answerOf slot .ok (if s.prof.reseed then 1 else 0)]
        { s with prof := { s.prof with reseed := true } }))

/-- STANDARDIZE by traverse state: a dwell begins at once in PARKED, joins one in STANDARDIZING, falls due in SCANNING,
BREAK_PARK, PROBING and POSITIONING(RETURN), the card held in each; a second card is BUSY (R112, R114).
SET_STD is BUSY in STANDARDIZING; else its values replace the settings, and the due flag is set when the count has reached
a new interval that is not 0, which the result value tells when it was clear (R109, R110). -/
def Obligations.StandardizeAndSetStd : Prop :=
  (∀ (s : State) (slot : Slot), CardFree s slot → Passes slot .standardize →
    let stopped := s.car.traverse = .halted ∨ s.car.traverse = .faulted
    let waits := s.car.traverse.isScanning = true ∨ (∃ x, s.car.traverse = .breakPark x) ∨
      (∃ h, s.car.traverse = .probing h) ∨ s.car.traverse = .positioning .returning
    let never := s.car.traverse.isHoming = true ∨ s.car.traverse = .positioning .point ∨ s.car.traverse = .positioning .park ∨
      ∃ p, s.car.traverse = .singlePoint p
    (stopped → ∃ t, exec (.standardize slot) s = .next t ∧ OrderLeaves s t slot .standardize [answerOf slot .notReady 0] s) ∧
    (¬stopped → s.std.card ≠ none ∨ never → ∃ t, exec (.standardize slot) s = .next t ∧
      OrderLeaves s t slot .standardize [answerOf slot .busy 0] s) ∧
    (s.std.card = none → waits → ∃ t, exec (.standardize slot) s = .next t ∧
      OrderLeaves s t slot .standardize [] { s with std := { s.std with card := some slot, due := true } }) ∧
    (∀ side, s.std.card = none → s.car.traverse = .standardizing side → ∃ t, exec (.standardize slot) s = .next t ∧
      OrderLeaves s t slot .standardize [] { s with std := { s.std with card := some slot } }) ∧
    (∀ side, s.std.card = none → s.car.traverse = .parked side → ∃ t, exec (.standardize slot) s = .next t ∧
      OrderLeaves s t slot .standardize [] { s with
        car := { s.car with traverse := .standardizing side }
        std := { s.std with
          card := some slot
          due := true
          dwell := some ⟨s.std.settings.dwell, s.std.settings.min, 0, ⟨⟨0, 0⟩, ⟨0, 0⟩, ⟨0, 0⟩⟩⟩ } })) ∧
  (∀ (s : State) (slot : Slot) (p : StdSettings), CardFree s slot → Passes slot (.setStd p) →
    let reached : Bool := decide (p.interval ≠ 0 ∧ p.interval ≤ s.std.count)
    (s.car.traverse.isStandardizing = true → ∃ t, exec (.setStd slot p) s = .next t ∧
      OrderLeaves s t slot (.setStd p) [answerOf slot .busy 0] s) ∧
    (s.car.traverse.isStandardizing = false → ∃ t, exec (.setStd slot p) s = .next t ∧
      OrderLeaves s t slot (.setStd p) [answerOf slot .ok (if reached = true ∧ s.std.due = false then 1 else 0)]
        { s with std := { s.std with settings := p, due := s.std.due || reached } }))

/-- The end of a dwell whose count has reached its length: each channel is judged by count, drift and step, one that passes
takes its average as zero, the generation rises when any passed, the outcomes are kept, STANDARDIZE is present unless all
passed, STD is raised, the card ends with the outcome codes, and the park decision follows: a held STOP, the sheet OFF, a
plan that starts a traverse, a start that fails, or no traverse to make (R18, R21, R122). A dwell not over goes on (R116
to R121). There is a frame record, and a traverse that starts then does not begin beyond the park it goes to. The order in
which cards ended together are answered is the model's choice (log 35). -/
def Obligations.DwellEndWritesTheZeros : Prop :=
  ∀ s : State, Settled s → s.phase = .running →
    let late := ∃ d, s.std.dwell = some d ∧ d.stdDwell ≤ d.ticks
    (¬late → exec .dwellEnd s = .next s) ∧
    (∀ d f, s.std.dwell = some d → d.stdDwell ≤ d.ticks → d.stdMin ≠ 0 → s.car.move = none → s.car.frame = some f →
      (if s.car.traverse.side = .tending then s.car.axis.upper.pos < f.parkDrive else f.parkTend < s.car.axis.upper.pos) →
      ∃ t o, exec .dwellEnd s = .next t ∧
      t.std.outcomes = o ∧
      (∀ q, let a := d.acc.get q
        let c := s.eng.cal.get q
        let avg := (a.sum + a.count / 2) / a.count
        (o.get q = .failFew ↔ a.count < d.stdMin) ∧
        (o.get q = .failDrift ↔ d.stdMin ≤ a.count ∧ c.values.driftLimit < ((avg : Int) - c.values.refZero).natAbs) ∧
        (o.get q = .failStep ↔ d.stdMin ≤ a.count ∧ ((avg : Int) - c.values.refZero).natAbs ≤ c.values.driftLimit ∧
          c.values.stepLimit < ((avg : Int) - c.zero).natAbs) ∧
        o.get q ≠ .none ∧ (t.eng.cal.get q).zero = (if o.get q = .pass then avg else c.zero)) ∧
      t.std.zeroGen = (if o.mass = .pass ∨ o.water = .pass ∨ o.cal = .pass then s.std.zeroGen + 1 else s.std.zeroGen) ∧
      ((t.alarm.entry .standardize).condition = true ↔ ¬(o.mass = .pass ∧ o.water = .pass ∧ o.cal = .pass)) ∧
      t.notices &&& Notice.std.bit ≠ 0 ∧ t.std.dwell = none ∧ t.std.card = none ∧
      (∀ slot, s.std.card = some slot → endedOf slot .ok
        (BitVec.ofNat 32 (o.mass.code + 16 * o.water.code + 256 * o.cal.code)) ∈ t.ord.answers) ∧
      (∀ side, s.car.traverse = .standardizing side → s.sheet.state ≠ .off → s.car.underWay = none → s.car.nextPlan = none →
        s.car.plan = .empty → t.car = { s.car with traverse := .parked side } ∧ t.std.due = false ∧
          t.std.count = 0 ∧ t.prof = s.prof) ∧
      (∀ side, s.car.traverse = .standardizing side → ParkDecided { s with
        std := { s.std with dwell := none, card := none, due := false, count := 0 }
        ord := { s.ord with answers := s.ord.answers ++ match s.std.card with
          | none => []
          | some slot => [endedOf slot .ok (BitVec.ofNat 32 (o.mass.code + 16 * o.water.code + 256 * o.cal.code))] } } t side f
        id) ∧
      { t with car := s.car, std := s.std, eng := s.eng, prof := s.prof, ord := s.ord, alarm := s.alarm,
               notices := s.notices, pins := s.pins } = s)

/-- SET_SHEET replaces the settings whole and at once; SET_EXPORT becomes the pending setting and tells the cycle number;
SET_GUARD replaces a range record or the uncovered policy and keeps the fault record (R149, R169, R205). -/
def Obligations.SettingsOfSheetExportAndGuard : Prop :=
  ∀ (s : State) (slot : Slot), CardFree s slot →
    (∀ p, Passes slot (.setSheet p) → ∃ t, exec (.setSheet slot p) s = .next t ∧
      OrderLeaves s t slot (.setSheet p) [answerOf slot .ok 0] { s with sheet := { s.sheet with settings := p } }) ∧
    (∀ c, Passes slot (.setExport c) → ∃ t, exec (.setExport slot c) s = .next t ∧
      OrderLeaves s t slot (.setExport c) [answerOf slot .ok (s.exp.cycle.setWidth 32)] { s with exp := { s.exp with
        next := some ⟨c.enable == 1, ⟨c.mask.testBit 0, c.mask.testBit 1, c.mask.testBit 2, c.mask.testBit 3⟩, c.div⟩ } }) ∧
    (∀ c, Passes slot (.setGuard c) → ∃ t, exec (.setGuard slot c) s = .next t ∧
      CardAnswered s t slot (.setGuard c) [answerOf slot .ok 0] ∧ t.guard.fault = s.guard.fault ∧
      (∀ i : Fin 8, t.guard.ranges[i] = if i.val = c.index then
        ⟨c.p1, c.p2, ⟨c.p3.testBit 0, c.p3.testBit 1, c.p3.testBit 2, c.p3.testBit 3⟩, c.p4 == 1⟩ else s.guard.ranges[i]) ∧
      t.guard.deny = (if c.index = 8 then c.p1 == 1 else s.guard.deny) ∧
      { withoutCard s t with guard := s.guard } = s)

/-- CLEAR_GUARD_FAULT empties the fault record, MULTIPLE included, gives ACCESS gone and tells what it found: 1 a latched
record, 2 one with MULTIPLE; an empty record stays, with value 0 and no condition given (R206). The ACCESS entry answers
the going from each of its five states (R156). -/
def Obligations.ClearGuardFaultEmptiesTheRecord : Prop :=
  ∀ (s : State) (slot : Slot), CardFree s slot → slot.val < 12 →
    (s.guard.fault = none → ∃ t, exec (.clearGuardFault slot) s = .next t ∧
      OrderLeaves s t slot .clearGuardFault [answerOf slot .ok 0] s) ∧
    (∀ r, s.guard.fault = some r → ∃ t, exec (.clearGuardFault slot) s = .next t ∧
      CardAnswered s t slot .clearGuardFault [answerOf slot .ok (if r.multiple then 2 else 1)] ∧
      t.guard = { s.guard with fault := none } ∧ ConditionGiven s t .access false ∧
      { withoutCard s t with guard := s.guard, alarm := s.alarm, notices := s.notices, pins := s.pins } = s)

/-! ## Alarms and annunciator -/

/-- SET_ALARM replaces the four settings of its kind. Disabled, the entry is NORMAL; enabled anew or with another severity it
restarts, taking the appearance of a condition that is present; else its state stays. Other entries stay, ALARM is raised
by a restart and by the disabling of an entry not NORMAL, and the result value is the state's code (R156, R159, R160,
R162). -/
def Obligations.SetAlarmRestartsOrKeeps : Prop :=
  ∀ (s : State) (slot : Slot) (c : AlarmCard) (k : AlarmKind), CardFree s slot → Passes slot (.setAlarm c) →
    c.kind = (kindIdx k).val →
    let old := s.alarm.entry k
    let on := c.enable = 1
    let major := c.severity = 1
    let again := on ∧ (old.enabled = false ∨ ¬(old.major = true ↔ major))
    ∃ t, exec (.setAlarm slot c) s = .next t ∧
      let new := t.alarm.entry k
      (new.enabled = true ↔ on) ∧ (new.major = true ↔ major) ∧ new.holdoff = c.holdoff ∧ (new.latching = true ↔ c.latching = 1) ∧
      new.condition = old.condition ∧
      (¬on → new.state = .normal ∧ new.remaining = 0) ∧
      (again → old.condition = false → new.state = .normal ∧ new.remaining = 0) ∧
      (again → old.condition = true → c.holdoff = 0 → new.state = .activeUnacked ∧ new.remaining = 0) ∧
      (again → old.condition = true → c.holdoff ≠ 0 → new.state = .holdoff ∧ new.remaining = c.holdoff) ∧
      (on → ¬again → new.state = old.state ∧ new.remaining = old.remaining) ∧
      CardAnswered s t slot (.setAlarm c) [answerOf slot .ok (BitVec.ofNat 32 new.state.code)] ∧ EntriesKept s t [k] ∧
      t.alarm.silence = (if again ∧ major ∧ new.state = .activeUnacked then false else s.alarm.silence) ∧
      t.notices = (if again ∨ (¬on ∧ old.enabled = true ∧ old.state ≠ .normal) then s.notices ||| Notice.alarm.bit
        else s.notices) ∧
      t.alarm.tone = s.alarm.tone ∧ t.alarm.flashOn = s.alarm.flashOn ∧
      { withoutCard s t with alarm := s.alarm, notices := s.notices, pins := s.pins } = s

/-- ACK_ALARMS acknowledges the entries its mask names as one change, raises ALARM when any changed and tells how many (R158,
R160); the silence flag stays. -/
def Obligations.AckAlarmsAcknowledgesTogether : Prop :=
  ∀ (s : State) (slot : Slot) (mask : Nat), CardFree s slot → Passes slot (.ackAlarms mask) →
    let unacked : AlarmEntry → Bool := fun e => e.state == .activeUnacked || e.state == .returnedUnacked
    let n := ((List.finRange 12).filter fun i => mask.testBit i.val && unacked s.alarm.entries[i]).length
    ∃ t, exec (.ackAlarms slot mask) s = .next t ∧
      CardAnswered s t slot (.ackAlarms mask) [answerOf slot .ok (BitVec.ofNat 32 n)] ∧
      (∀ i : Fin 12, t.alarm.entries[i] =
        let e := s.alarm.entries[i]
        if mask.testBit i.val = true ∧ e.state = .activeUnacked then { e with state := .activeAcked }
        else if mask.testBit i.val = true ∧ e.state = .returnedUnacked then { e with state := .normal } else e) ∧
      t.notices = (if 0 < n then s.notices ||| Notice.alarm.bit else s.notices) ∧ t.alarm.silence = s.alarm.silence ∧
      t.alarm.tone = s.alarm.tone ∧ t.alarm.flashOn = s.alarm.flashOn ∧
      { withoutCard s t with alarm := s.alarm, notices := s.notices, pins := s.pins } = s

/-- SILENCE_HORN sets the silence flag in every state, tells whether the horn was sounding, changes no entry and raises
nothing (R163). -/
def Obligations.SilenceHornSetsTheFlag : Prop :=
  ∀ (s : State) (slot : Slot), CardFree s slot →
    let sounding := s.alarm.silence = false ∧ ∃ i : Fin 12, s.alarm.entries[i].enabled = true ∧ s.alarm.entries[i].major = true ∧
      (s.alarm.entries[i].state = .activeUnacked ∨ s.alarm.entries[i].state = .returnedUnacked)
    ∃ t v, exec (.silenceHorn slot) s = .next t ∧ CardAnswered s t slot .silenceHorn [answerOf slot .ok v] ∧
      (sounding → v = 1) ∧ (¬sounding → v = 0) ∧ t.pins.horn = false ∧ t.alarm.entries = s.alarm.entries ∧
      withoutCard s t = { s with
        alarm := { s.alarm with silence := true, sounding := false }
        pins := { s.pins with horn := false } }

/-- SET_HORN replaces the tone code and, while the horn sounds, starts the wave again with HORN high; a half period of the
horn turns its level while it sounds; a flash half turns the flash, which LAMP follows while an entry is unacknowledged
(R161, R164). -/
def Obligations.HornAndFlashWaves : Prop :=
  ∀ (s : State) (slot : Slot) (tone : Nat), CardFree s slot →
    let sounding := s.alarm.silence = false ∧ ∃ i : Fin 12, s.alarm.entries[i].enabled = true ∧ s.alarm.entries[i].major = true ∧
      s.alarm.entries[i].unacked = true
    (Passes slot (.setHorn tone) → ∃ t, exec (.setHorn slot tone) s = .next t ∧
      CardAnswered s t slot (.setHorn tone) [answerOf slot .ok 0] ∧
      (sounding → withoutCard s t = { s with alarm := { s.alarm with tone := tone }, pins := { s.pins with horn := true } }) ∧
      (¬sounding → withoutCard s t = { s with alarm := { s.alarm with tone := tone } })) ∧
    (sounding → exec .hornHalfPeriod s = .next { s with pins := { s.pins with horn := !s.pins.horn } }) ∧
    (¬sounding → exec .hornHalfPeriod s = .next s) ∧
    ((∃ i : Fin 12, s.alarm.entries[i].unacked = true) → exec .flashHalf s = .next { s with
      alarm := { s.alarm with flashOn := !s.alarm.flashOn }
      pins := { s.pins with lamp := !s.alarm.flashOn } }) ∧
    ((∀ i : Fin 12, s.alarm.entries[i].unacked = false) → exec .flashHalf s = .next { s with
      alarm := { s.alarm with flashOn := !s.alarm.flashOn } })

/-- A holdoff that has run out moves its entry to ACTIVE_UNACKED, raises ALARM, and clears the silence flag for a MAJOR entry;
no other entry changes; before, nothing does (R157, R160, R162). -/
def Obligations.HoldoffEndActivates : Prop :=
  ∀ (s : State) (k : AlarmKind), Settled s → s.phase = .running →
    let e := s.alarm.entry k
    (¬(e.state = .holdoff ∧ e.remaining = 0) → exec (.holdoffEnd k) s = .next s) ∧
    (e.state = .holdoff → e.remaining = 0 → ∃ t, exec (.holdoffEnd k) s = .next t ∧
      t.alarm.entry k = { e with state := .activeUnacked } ∧ EntriesKept s t [k] ∧
      t.alarm.silence = (if e.major then false else s.alarm.silence) ∧ t.notices = s.notices ||| Notice.alarm.bit ∧
      { t with alarm := s.alarm, notices := s.notices, pins := s.pins } = s)

/-! ## The export link -/

/-- The frames of a cycle: a header, an MD frame and the bin frames of each profile in turn, built from the copy, XFRM high
and XCLK and XDAT carrying its bits, the most significant first, while one is sent, all three low otherwise; after the
last frame the cycle starts again or the link idles; a cycle cut by a soft reset ends with its frame (R168, R170, R174,
R175, R176, R179). What the copy holds: for each selected profile its MDF and its bins with F and their flags, and the
three cycle-wide fields (R171, R172, R173). -/
def Obligations.ExportSendsItsFrames : Prop :=
  (∀ (s : State) (c : ExportCopy) (blk n : Nat) (b : ExportBlock) (w : BitVec 48), Settled s → s.phase = .running →
    c.blocks[blk]? = some b →
    let id := BitVec.ofNat 2 (profileId b.profile)
    let sheet : BitVec 2 := match c.sheet with | .unknown => 0 | .on => 1 | .off => 2
    let e : ExportSettings := match s.exp.next with | none => s.exp.settings | some v => v
    let starts : ExportLink := match s.car.frame, e.enable with
      | some f, true => { settings := e, next := none, cycle := s.exp.cycle + 1,
                          sending := some ⟨some (exportCopy f e.profiles s), 0, 0, none⟩ }
      | _, _ => { settings := e, next := none, cycle := s.exp.cycle, sending := none }
    let sends : ExportLink → Bool → State := fun x v => { s with exp := x, pins := { s.pins with xfrm := v } }
    (s.exp.sending = some ⟨some c, blk, n, none⟩ → ∃ v, exec .exportFrameStart s =
        .next (sends { s.exp with sending := some ⟨some c, blk, n, some v⟩ } true) ∧
      (n = 0 → v = 0b01#2 ++ id ++ s.exp.cycle ++ c.source.extractLsb' 0 16 ++ sheet ++ 0#1 ++ BitVec.ofNat 9 c.nbins) ∧
      (n = 1 → v = 0b11#2 ++ id ++ BitVec.ofInt 16 b.mdf ++ 0#28) ∧
      (∀ x : ExportBin, 2 ≤ n → b.bins[n - 2]? = some x → v = 0b10#2 ++ id ++ BitVec.ofNat 9 (n - 2) ++
        BitVec.ofInt 16 (max (-32768) (min 32767 x.f)) ++ BitVec.ofBool x.valid ++ BitVec.ofBool x.stale ++
        BitVec.ofBool x.offSheet ++ 0#16)) ∧
    (s.exp.sending = none ∨ (∃ x w, s.exp.sending = some x ∧ x.wire = some w) → exec .exportFrameStart s = .next s) ∧
    (s.exp.sending = some ⟨some c, blk, n, some w⟩ → n + 1 < c.nbins + 2 → exec .exportFrameEnd s =
      .next (sends { s.exp with sending := some ⟨some c, blk, n + 1, none⟩ } false)) ∧
    (s.exp.sending = some ⟨some c, blk, n, some w⟩ → c.nbins + 2 ≤ n + 1 → blk + 1 < c.blocks.length → exec .exportFrameEnd s =
      .next (sends { s.exp with sending := some ⟨some c, blk + 1, 0, none⟩ } false)) ∧
    (s.exp.sending = some ⟨some c, blk, n, some w⟩ → c.nbins + 2 ≤ n + 1 → c.blocks.length ≤ blk + 1 →
      exec .exportFrameEnd s = .next (sends starts false)) ∧
    (s.exp.sending = some ⟨none, blk, n, some w⟩ → exec .exportFrameEnd s = .next (sends starts false)) ∧
    (s.exp.sending = none ∨ (∃ x, s.exp.sending = some x ∧ x.wire = none) → exec .exportFrameEnd s = .next s)) ∧
  (∀ (s : State) (i : Fin 48) (half : Bool),
    (∀ x v, s.exp.sending = some x → x.wire = some v → exportLines s i half = (half, v.getLsbD (47 - i.val))) ∧
    (s.exp.sending = none ∨ (∃ x, s.exp.sending = some x ∧ x.wire = none) → exportLines s i half = (false, false))) ∧
  (∀ (s : State) (f : FrameRecord) (selected : Per4 Bool),
    let c := exportCopy f selected s
    c.nbins = f.nbins ∧ c.sheet = s.sheet.state ∧ c.source = s.prof.sourceScan ∧
    c.blocks.map (fun x => x.profile) = [Profile.mass, .moist, .dry, .cal].filter (fun q => selected.get q) ∧
    ∀ x ∈ c.blocks, x.mdf = s.prof.mdf.get x.profile ∧ x.bins.length = (s.prof.table.get x.profile).length ∧
      ∀ i e, (s.prof.table.get x.profile)[i]? = some e → ∃ y, x.bins[i]? = some y ∧ y.f = e.f ∧ y.valid = e.lastUpdate ∧
        (y.stale = true ↔ s.prof.settings.staleScans < e.age) ∧
        (y.offSheet = true ↔ ∃ o, s.prof.edges = some o ∧ (i < o.tend ∨ o.drive < i)))
end

