-- ==== Sys2Proof/Laws/State.lean ====
section
/-! SUPPORT. What each update of one block leaves and changes, field by field: a later proof never unfolds a record update. -/

set_option Elab.async false

namespace Sys2Proof.Machine

open Sys2Proof

section onCar
variable (s : State) (f : CarriageController → CarriageController)

@[simp] theorem State.onCar_phase : (s.onCar f).phase = s.phase := rfl
@[simp] theorem State.onCar_mem : (s.onCar f).mem = s.mem := rfl
@[simp] theorem State.onCar_notices : (s.onCar f).notices = s.notices := rfl
@[simp] theorem State.onCar_mask : (s.onCar f).mask = s.mask := rfl
@[simp] theorem State.onCar_refresh : (s.onCar f).refresh = s.refresh := rfl
@[simp] theorem State.onCar_arbLast : (s.onCar f).arbLast = s.arbLast := rfl
@[simp] theorem State.onCar_frameOk : (s.onCar f).frameOk = s.frameOk := rfl
@[simp] theorem State.onCar_inputs : (s.onCar f).inputs = s.inputs := rfl
@[simp] theorem State.onCar_pins : (s.onCar f).pins = s.pins := rfl
@[simp] theorem State.onCar_car : (s.onCar f).car = f s.car := rfl
@[simp] theorem State.onCar_time : (s.onCar f).time = s.time := rfl
@[simp] theorem State.onCar_links : (s.onCar f).links = s.links := rfl
@[simp] theorem State.onCar_eng : (s.onCar f).eng = s.eng := rfl
@[simp] theorem State.onCar_prof : (s.onCar f).prof = s.prof := rfl
@[simp] theorem State.onCar_std : (s.onCar f).std = s.std := rfl
@[simp] theorem State.onCar_sheet : (s.onCar f).sheet = s.sheet := rfl
@[simp] theorem State.onCar_alarm : (s.onCar f).alarm = s.alarm := rfl
@[simp] theorem State.onCar_exp : (s.onCar f).exp = s.exp := rfl
@[simp] theorem State.onCar_portA : (s.onCar f).portA = s.portA := rfl
@[simp] theorem State.onCar_portB : (s.onCar f).portB = s.portB := rfl
@[simp] theorem State.onCar_guard : (s.onCar f).guard = s.guard := rfl
@[simp] theorem State.onCar_ord : (s.onCar f).ord = s.ord := rfl
@[simp] theorem State.onCar_pending : (s.onCar f).pending = s.pending := rfl

end onCar

section onTime
variable (s : State) (f : TimeBase → TimeBase)

@[simp] theorem State.onTime_phase : (s.onTime f).phase = s.phase := rfl
@[simp] theorem State.onTime_mem : (s.onTime f).mem = s.mem := rfl
@[simp] theorem State.onTime_notices : (s.onTime f).notices = s.notices := rfl
@[simp] theorem State.onTime_mask : (s.onTime f).mask = s.mask := rfl
@[simp] theorem State.onTime_refresh : (s.onTime f).refresh = s.refresh := rfl
@[simp] theorem State.onTime_arbLast : (s.onTime f).arbLast = s.arbLast := rfl
@[simp] theorem State.onTime_frameOk : (s.onTime f).frameOk = s.frameOk := rfl
@[simp] theorem State.onTime_inputs : (s.onTime f).inputs = s.inputs := rfl
@[simp] theorem State.onTime_pins : (s.onTime f).pins = s.pins := rfl
@[simp] theorem State.onTime_car : (s.onTime f).car = s.car := rfl
@[simp] theorem State.onTime_time : (s.onTime f).time = f s.time := rfl
@[simp] theorem State.onTime_links : (s.onTime f).links = s.links := rfl
@[simp] theorem State.onTime_eng : (s.onTime f).eng = s.eng := rfl
@[simp] theorem State.onTime_prof : (s.onTime f).prof = s.prof := rfl
@[simp] theorem State.onTime_std : (s.onTime f).std = s.std := rfl
@[simp] theorem State.onTime_sheet : (s.onTime f).sheet = s.sheet := rfl
@[simp] theorem State.onTime_alarm : (s.onTime f).alarm = s.alarm := rfl
@[simp] theorem State.onTime_exp : (s.onTime f).exp = s.exp := rfl
@[simp] theorem State.onTime_portA : (s.onTime f).portA = s.portA := rfl
@[simp] theorem State.onTime_portB : (s.onTime f).portB = s.portB := rfl
@[simp] theorem State.onTime_guard : (s.onTime f).guard = s.guard := rfl
@[simp] theorem State.onTime_ord : (s.onTime f).ord = s.ord := rfl
@[simp] theorem State.onTime_pending : (s.onTime f).pending = s.pending := rfl

end onTime

section onLinks
variable (s : State) (f : PerBeam Receiver → PerBeam Receiver)

@[simp] theorem State.onLinks_phase : (s.onLinks f).phase = s.phase := rfl
@[simp] theorem State.onLinks_mem : (s.onLinks f).mem = s.mem := rfl
@[simp] theorem State.onLinks_notices : (s.onLinks f).notices = s.notices := rfl
@[simp] theorem State.onLinks_mask : (s.onLinks f).mask = s.mask := rfl
@[simp] theorem State.onLinks_refresh : (s.onLinks f).refresh = s.refresh := rfl
@[simp] theorem State.onLinks_arbLast : (s.onLinks f).arbLast = s.arbLast := rfl
@[simp] theorem State.onLinks_frameOk : (s.onLinks f).frameOk = s.frameOk := rfl
@[simp] theorem State.onLinks_inputs : (s.onLinks f).inputs = s.inputs := rfl
@[simp] theorem State.onLinks_pins : (s.onLinks f).pins = s.pins := rfl
@[simp] theorem State.onLinks_car : (s.onLinks f).car = s.car := rfl
@[simp] theorem State.onLinks_time : (s.onLinks f).time = s.time := rfl
@[simp] theorem State.onLinks_links : (s.onLinks f).links = f s.links := rfl
@[simp] theorem State.onLinks_eng : (s.onLinks f).eng = s.eng := rfl
@[simp] theorem State.onLinks_prof : (s.onLinks f).prof = s.prof := rfl
@[simp] theorem State.onLinks_std : (s.onLinks f).std = s.std := rfl
@[simp] theorem State.onLinks_sheet : (s.onLinks f).sheet = s.sheet := rfl
@[simp] theorem State.onLinks_alarm : (s.onLinks f).alarm = s.alarm := rfl
@[simp] theorem State.onLinks_exp : (s.onLinks f).exp = s.exp := rfl
@[simp] theorem State.onLinks_portA : (s.onLinks f).portA = s.portA := rfl
@[simp] theorem State.onLinks_portB : (s.onLinks f).portB = s.portB := rfl
@[simp] theorem State.onLinks_guard : (s.onLinks f).guard = s.guard := rfl
@[simp] theorem State.onLinks_ord : (s.onLinks f).ord = s.ord := rfl
@[simp] theorem State.onLinks_pending : (s.onLinks f).pending = s.pending := rfl

end onLinks

section onEng
variable (s : State) (f : Engine → Engine)

@[simp] theorem State.onEng_phase : (s.onEng f).phase = s.phase := rfl
@[simp] theorem State.onEng_mem : (s.onEng f).mem = s.mem := rfl
@[simp] theorem State.onEng_notices : (s.onEng f).notices = s.notices := rfl
@[simp] theorem State.onEng_mask : (s.onEng f).mask = s.mask := rfl
@[simp] theorem State.onEng_refresh : (s.onEng f).refresh = s.refresh := rfl
@[simp] theorem State.onEng_arbLast : (s.onEng f).arbLast = s.arbLast := rfl
@[simp] theorem State.onEng_frameOk : (s.onEng f).frameOk = s.frameOk := rfl
@[simp] theorem State.onEng_inputs : (s.onEng f).inputs = s.inputs := rfl
@[simp] theorem State.onEng_pins : (s.onEng f).pins = s.pins := rfl
@[simp] theorem State.onEng_car : (s.onEng f).car = s.car := rfl
@[simp] theorem State.onEng_time : (s.onEng f).time = s.time := rfl
@[simp] theorem State.onEng_links : (s.onEng f).links = s.links := rfl
@[simp] theorem State.onEng_eng : (s.onEng f).eng = f s.eng := rfl
@[simp] theorem State.onEng_prof : (s.onEng f).prof = s.prof := rfl
@[simp] theorem State.onEng_std : (s.onEng f).std = s.std := rfl
@[simp] theorem State.onEng_sheet : (s.onEng f).sheet = s.sheet := rfl
@[simp] theorem State.onEng_alarm : (s.onEng f).alarm = s.alarm := rfl
@[simp] theorem State.onEng_exp : (s.onEng f).exp = s.exp := rfl
@[simp] theorem State.onEng_portA : (s.onEng f).portA = s.portA := rfl
@[simp] theorem State.onEng_portB : (s.onEng f).portB = s.portB := rfl
@[simp] theorem State.onEng_guard : (s.onEng f).guard = s.guard := rfl
@[simp] theorem State.onEng_ord : (s.onEng f).ord = s.ord := rfl
@[simp] theorem State.onEng_pending : (s.onEng f).pending = s.pending := rfl

end onEng

section onProf
variable (s : State) (f : ProfileEngine → ProfileEngine)

@[simp] theorem State.onProf_phase : (s.onProf f).phase = s.phase := rfl
@[simp] theorem State.onProf_mem : (s.onProf f).mem = s.mem := rfl
@[simp] theorem State.onProf_notices : (s.onProf f).notices = s.notices := rfl
@[simp] theorem State.onProf_mask : (s.onProf f).mask = s.mask := rfl
@[simp] theorem State.onProf_refresh : (s.onProf f).refresh = s.refresh := rfl
@[simp] theorem State.onProf_arbLast : (s.onProf f).arbLast = s.arbLast := rfl
@[simp] theorem State.onProf_frameOk : (s.onProf f).frameOk = s.frameOk := rfl
@[simp] theorem State.onProf_inputs : (s.onProf f).inputs = s.inputs := rfl
@[simp] theorem State.onProf_pins : (s.onProf f).pins = s.pins := rfl
@[simp] theorem State.onProf_car : (s.onProf f).car = s.car := rfl
@[simp] theorem State.onProf_time : (s.onProf f).time = s.time := rfl
@[simp] theorem State.onProf_links : (s.onProf f).links = s.links := rfl
@[simp] theorem State.onProf_eng : (s.onProf f).eng = s.eng := rfl
@[simp] theorem State.onProf_prof : (s.onProf f).prof = f s.prof := rfl
@[simp] theorem State.onProf_std : (s.onProf f).std = s.std := rfl
@[simp] theorem State.onProf_sheet : (s.onProf f).sheet = s.sheet := rfl
@[simp] theorem State.onProf_alarm : (s.onProf f).alarm = s.alarm := rfl
@[simp] theorem State.onProf_exp : (s.onProf f).exp = s.exp := rfl
@[simp] theorem State.onProf_portA : (s.onProf f).portA = s.portA := rfl
@[simp] theorem State.onProf_portB : (s.onProf f).portB = s.portB := rfl
@[simp] theorem State.onProf_guard : (s.onProf f).guard = s.guard := rfl
@[simp] theorem State.onProf_ord : (s.onProf f).ord = s.ord := rfl
@[simp] theorem State.onProf_pending : (s.onProf f).pending = s.pending := rfl

end onProf

section onStd
variable (s : State) (f : StdUnit → StdUnit)

@[simp] theorem State.onStd_phase : (s.onStd f).phase = s.phase := rfl
@[simp] theorem State.onStd_mem : (s.onStd f).mem = s.mem := rfl
@[simp] theorem State.onStd_notices : (s.onStd f).notices = s.notices := rfl
@[simp] theorem State.onStd_mask : (s.onStd f).mask = s.mask := rfl
@[simp] theorem State.onStd_refresh : (s.onStd f).refresh = s.refresh := rfl
@[simp] theorem State.onStd_arbLast : (s.onStd f).arbLast = s.arbLast := rfl
@[simp] theorem State.onStd_frameOk : (s.onStd f).frameOk = s.frameOk := rfl
@[simp] theorem State.onStd_inputs : (s.onStd f).inputs = s.inputs := rfl
@[simp] theorem State.onStd_pins : (s.onStd f).pins = s.pins := rfl
@[simp] theorem State.onStd_car : (s.onStd f).car = s.car := rfl
@[simp] theorem State.onStd_time : (s.onStd f).time = s.time := rfl
@[simp] theorem State.onStd_links : (s.onStd f).links = s.links := rfl
@[simp] theorem State.onStd_eng : (s.onStd f).eng = s.eng := rfl
@[simp] theorem State.onStd_prof : (s.onStd f).prof = s.prof := rfl
@[simp] theorem State.onStd_std : (s.onStd f).std = f s.std := rfl
@[simp] theorem State.onStd_sheet : (s.onStd f).sheet = s.sheet := rfl
@[simp] theorem State.onStd_alarm : (s.onStd f).alarm = s.alarm := rfl
@[simp] theorem State.onStd_exp : (s.onStd f).exp = s.exp := rfl
@[simp] theorem State.onStd_portA : (s.onStd f).portA = s.portA := rfl
@[simp] theorem State.onStd_portB : (s.onStd f).portB = s.portB := rfl
@[simp] theorem State.onStd_guard : (s.onStd f).guard = s.guard := rfl
@[simp] theorem State.onStd_ord : (s.onStd f).ord = s.ord := rfl
@[simp] theorem State.onStd_pending : (s.onStd f).pending = s.pending := rfl

end onStd

section onSheet
variable (s : State) (f : SheetMonitor → SheetMonitor)

@[simp] theorem State.onSheet_phase : (s.onSheet f).phase = s.phase := rfl
@[simp] theorem State.onSheet_mem : (s.onSheet f).mem = s.mem := rfl
@[simp] theorem State.onSheet_notices : (s.onSheet f).notices = s.notices := rfl
@[simp] theorem State.onSheet_mask : (s.onSheet f).mask = s.mask := rfl
@[simp] theorem State.onSheet_refresh : (s.onSheet f).refresh = s.refresh := rfl
@[simp] theorem State.onSheet_arbLast : (s.onSheet f).arbLast = s.arbLast := rfl
@[simp] theorem State.onSheet_frameOk : (s.onSheet f).frameOk = s.frameOk := rfl
@[simp] theorem State.onSheet_inputs : (s.onSheet f).inputs = s.inputs := rfl
@[simp] theorem State.onSheet_pins : (s.onSheet f).pins = s.pins := rfl
@[simp] theorem State.onSheet_car : (s.onSheet f).car = s.car := rfl
@[simp] theorem State.onSheet_time : (s.onSheet f).time = s.time := rfl
@[simp] theorem State.onSheet_links : (s.onSheet f).links = s.links := rfl
@[simp] theorem State.onSheet_eng : (s.onSheet f).eng = s.eng := rfl
@[simp] theorem State.onSheet_prof : (s.onSheet f).prof = s.prof := rfl
@[simp] theorem State.onSheet_std : (s.onSheet f).std = s.std := rfl
@[simp] theorem State.onSheet_sheet : (s.onSheet f).sheet = f s.sheet := rfl
@[simp] theorem State.onSheet_alarm : (s.onSheet f).alarm = s.alarm := rfl
@[simp] theorem State.onSheet_exp : (s.onSheet f).exp = s.exp := rfl
@[simp] theorem State.onSheet_portA : (s.onSheet f).portA = s.portA := rfl
@[simp] theorem State.onSheet_portB : (s.onSheet f).portB = s.portB := rfl
@[simp] theorem State.onSheet_guard : (s.onSheet f).guard = s.guard := rfl
@[simp] theorem State.onSheet_ord : (s.onSheet f).ord = s.ord := rfl
@[simp] theorem State.onSheet_pending : (s.onSheet f).pending = s.pending := rfl

end onSheet

section onAlarm
variable (s : State) (f : AlarmUnit → AlarmUnit)

@[simp] theorem State.onAlarm_phase : (s.onAlarm f).phase = s.phase := rfl
@[simp] theorem State.onAlarm_mem : (s.onAlarm f).mem = s.mem := rfl
@[simp] theorem State.onAlarm_notices : (s.onAlarm f).notices = s.notices := rfl
@[simp] theorem State.onAlarm_mask : (s.onAlarm f).mask = s.mask := rfl
@[simp] theorem State.onAlarm_refresh : (s.onAlarm f).refresh = s.refresh := rfl
@[simp] theorem State.onAlarm_arbLast : (s.onAlarm f).arbLast = s.arbLast := rfl
@[simp] theorem State.onAlarm_frameOk : (s.onAlarm f).frameOk = s.frameOk := rfl
@[simp] theorem State.onAlarm_inputs : (s.onAlarm f).inputs = s.inputs := rfl
@[simp] theorem State.onAlarm_pins : (s.onAlarm f).pins = s.pins := rfl
@[simp] theorem State.onAlarm_car : (s.onAlarm f).car = s.car := rfl
@[simp] theorem State.onAlarm_time : (s.onAlarm f).time = s.time := rfl
@[simp] theorem State.onAlarm_links : (s.onAlarm f).links = s.links := rfl
@[simp] theorem State.onAlarm_eng : (s.onAlarm f).eng = s.eng := rfl
@[simp] theorem State.onAlarm_prof : (s.onAlarm f).prof = s.prof := rfl
@[simp] theorem State.onAlarm_std : (s.onAlarm f).std = s.std := rfl
@[simp] theorem State.onAlarm_sheet : (s.onAlarm f).sheet = s.sheet := rfl
@[simp] theorem State.onAlarm_alarm : (s.onAlarm f).alarm = f s.alarm := rfl
@[simp] theorem State.onAlarm_exp : (s.onAlarm f).exp = s.exp := rfl
@[simp] theorem State.onAlarm_portA : (s.onAlarm f).portA = s.portA := rfl
@[simp] theorem State.onAlarm_portB : (s.onAlarm f).portB = s.portB := rfl
@[simp] theorem State.onAlarm_guard : (s.onAlarm f).guard = s.guard := rfl
@[simp] theorem State.onAlarm_ord : (s.onAlarm f).ord = s.ord := rfl
@[simp] theorem State.onAlarm_pending : (s.onAlarm f).pending = s.pending := rfl

end onAlarm

section onExp
variable (s : State) (f : ExportLink → ExportLink)

@[simp] theorem State.onExp_phase : (s.onExp f).phase = s.phase := rfl
@[simp] theorem State.onExp_mem : (s.onExp f).mem = s.mem := rfl
@[simp] theorem State.onExp_notices : (s.onExp f).notices = s.notices := rfl
@[simp] theorem State.onExp_mask : (s.onExp f).mask = s.mask := rfl
@[simp] theorem State.onExp_refresh : (s.onExp f).refresh = s.refresh := rfl
@[simp] theorem State.onExp_arbLast : (s.onExp f).arbLast = s.arbLast := rfl
@[simp] theorem State.onExp_frameOk : (s.onExp f).frameOk = s.frameOk := rfl
@[simp] theorem State.onExp_inputs : (s.onExp f).inputs = s.inputs := rfl
@[simp] theorem State.onExp_pins : (s.onExp f).pins = s.pins := rfl
@[simp] theorem State.onExp_car : (s.onExp f).car = s.car := rfl
@[simp] theorem State.onExp_time : (s.onExp f).time = s.time := rfl
@[simp] theorem State.onExp_links : (s.onExp f).links = s.links := rfl
@[simp] theorem State.onExp_eng : (s.onExp f).eng = s.eng := rfl
@[simp] theorem State.onExp_prof : (s.onExp f).prof = s.prof := rfl
@[simp] theorem State.onExp_std : (s.onExp f).std = s.std := rfl
@[simp] theorem State.onExp_sheet : (s.onExp f).sheet = s.sheet := rfl
@[simp] theorem State.onExp_alarm : (s.onExp f).alarm = s.alarm := rfl
@[simp] theorem State.onExp_exp : (s.onExp f).exp = f s.exp := rfl
@[simp] theorem State.onExp_portA : (s.onExp f).portA = s.portA := rfl
@[simp] theorem State.onExp_portB : (s.onExp f).portB = s.portB := rfl
@[simp] theorem State.onExp_guard : (s.onExp f).guard = s.guard := rfl
@[simp] theorem State.onExp_ord : (s.onExp f).ord = s.ord := rfl
@[simp] theorem State.onExp_pending : (s.onExp f).pending = s.pending := rfl

end onExp

section onPortA
variable (s : State) (f : PortA → PortA)

@[simp] theorem State.onPortA_phase : (s.onPortA f).phase = s.phase := rfl
@[simp] theorem State.onPortA_mem : (s.onPortA f).mem = s.mem := rfl
@[simp] theorem State.onPortA_notices : (s.onPortA f).notices = s.notices := rfl
@[simp] theorem State.onPortA_mask : (s.onPortA f).mask = s.mask := rfl
@[simp] theorem State.onPortA_refresh : (s.onPortA f).refresh = s.refresh := rfl
@[simp] theorem State.onPortA_arbLast : (s.onPortA f).arbLast = s.arbLast := rfl
@[simp] theorem State.onPortA_frameOk : (s.onPortA f).frameOk = s.frameOk := rfl
@[simp] theorem State.onPortA_inputs : (s.onPortA f).inputs = s.inputs := rfl
@[simp] theorem State.onPortA_pins : (s.onPortA f).pins = s.pins := rfl
@[simp] theorem State.onPortA_car : (s.onPortA f).car = s.car := rfl
@[simp] theorem State.onPortA_time : (s.onPortA f).time = s.time := rfl
@[simp] theorem State.onPortA_links : (s.onPortA f).links = s.links := rfl
@[simp] theorem State.onPortA_eng : (s.onPortA f).eng = s.eng := rfl
@[simp] theorem State.onPortA_prof : (s.onPortA f).prof = s.prof := rfl
@[simp] theorem State.onPortA_std : (s.onPortA f).std = s.std := rfl
@[simp] theorem State.onPortA_sheet : (s.onPortA f).sheet = s.sheet := rfl
@[simp] theorem State.onPortA_alarm : (s.onPortA f).alarm = s.alarm := rfl
@[simp] theorem State.onPortA_exp : (s.onPortA f).exp = s.exp := rfl
@[simp] theorem State.onPortA_portA : (s.onPortA f).portA = f s.portA := rfl
@[simp] theorem State.onPortA_portB : (s.onPortA f).portB = s.portB := rfl
@[simp] theorem State.onPortA_guard : (s.onPortA f).guard = s.guard := rfl
@[simp] theorem State.onPortA_ord : (s.onPortA f).ord = s.ord := rfl
@[simp] theorem State.onPortA_pending : (s.onPortA f).pending = s.pending := rfl

end onPortA

section onPortB
variable (s : State) (f : PortB → PortB)

@[simp] theorem State.onPortB_phase : (s.onPortB f).phase = s.phase := rfl
@[simp] theorem State.onPortB_mem : (s.onPortB f).mem = s.mem := rfl
@[simp] theorem State.onPortB_notices : (s.onPortB f).notices = s.notices := rfl
@[simp] theorem State.onPortB_mask : (s.onPortB f).mask = s.mask := rfl
@[simp] theorem State.onPortB_refresh : (s.onPortB f).refresh = s.refresh := rfl
@[simp] theorem State.onPortB_arbLast : (s.onPortB f).arbLast = s.arbLast := rfl
@[simp] theorem State.onPortB_frameOk : (s.onPortB f).frameOk = s.frameOk := rfl
@[simp] theorem State.onPortB_inputs : (s.onPortB f).inputs = s.inputs := rfl
@[simp] theorem State.onPortB_pins : (s.onPortB f).pins = s.pins := rfl
@[simp] theorem State.onPortB_car : (s.onPortB f).car = s.car := rfl
@[simp] theorem State.onPortB_time : (s.onPortB f).time = s.time := rfl
@[simp] theorem State.onPortB_links : (s.onPortB f).links = s.links := rfl
@[simp] theorem State.onPortB_eng : (s.onPortB f).eng = s.eng := rfl
@[simp] theorem State.onPortB_prof : (s.onPortB f).prof = s.prof := rfl
@[simp] theorem State.onPortB_std : (s.onPortB f).std = s.std := rfl
@[simp] theorem State.onPortB_sheet : (s.onPortB f).sheet = s.sheet := rfl
@[simp] theorem State.onPortB_alarm : (s.onPortB f).alarm = s.alarm := rfl
@[simp] theorem State.onPortB_exp : (s.onPortB f).exp = s.exp := rfl
@[simp] theorem State.onPortB_portA : (s.onPortB f).portA = s.portA := rfl
@[simp] theorem State.onPortB_portB : (s.onPortB f).portB = f s.portB := rfl
@[simp] theorem State.onPortB_guard : (s.onPortB f).guard = s.guard := rfl
@[simp] theorem State.onPortB_ord : (s.onPortB f).ord = s.ord := rfl
@[simp] theorem State.onPortB_pending : (s.onPortB f).pending = s.pending := rfl

end onPortB

section onGuard
variable (s : State) (f : AccessGuard → AccessGuard)

@[simp] theorem State.onGuard_phase : (s.onGuard f).phase = s.phase := rfl
@[simp] theorem State.onGuard_mem : (s.onGuard f).mem = s.mem := rfl
@[simp] theorem State.onGuard_notices : (s.onGuard f).notices = s.notices := rfl
@[simp] theorem State.onGuard_mask : (s.onGuard f).mask = s.mask := rfl
@[simp] theorem State.onGuard_refresh : (s.onGuard f).refresh = s.refresh := rfl
@[simp] theorem State.onGuard_arbLast : (s.onGuard f).arbLast = s.arbLast := rfl
@[simp] theorem State.onGuard_frameOk : (s.onGuard f).frameOk = s.frameOk := rfl
@[simp] theorem State.onGuard_inputs : (s.onGuard f).inputs = s.inputs := rfl
@[simp] theorem State.onGuard_pins : (s.onGuard f).pins = s.pins := rfl
@[simp] theorem State.onGuard_car : (s.onGuard f).car = s.car := rfl
@[simp] theorem State.onGuard_time : (s.onGuard f).time = s.time := rfl
@[simp] theorem State.onGuard_links : (s.onGuard f).links = s.links := rfl
@[simp] theorem State.onGuard_eng : (s.onGuard f).eng = s.eng := rfl
@[simp] theorem State.onGuard_prof : (s.onGuard f).prof = s.prof := rfl
@[simp] theorem State.onGuard_std : (s.onGuard f).std = s.std := rfl
@[simp] theorem State.onGuard_sheet : (s.onGuard f).sheet = s.sheet := rfl
@[simp] theorem State.onGuard_alarm : (s.onGuard f).alarm = s.alarm := rfl
@[simp] theorem State.onGuard_exp : (s.onGuard f).exp = s.exp := rfl
@[simp] theorem State.onGuard_portA : (s.onGuard f).portA = s.portA := rfl
@[simp] theorem State.onGuard_portB : (s.onGuard f).portB = s.portB := rfl
@[simp] theorem State.onGuard_guard : (s.onGuard f).guard = f s.guard := rfl
@[simp] theorem State.onGuard_ord : (s.onGuard f).ord = s.ord := rfl
@[simp] theorem State.onGuard_pending : (s.onGuard f).pending = s.pending := rfl

end onGuard

section onOrd
variable (s : State) (f : OrderUnit → OrderUnit)

@[simp] theorem State.onOrd_phase : (s.onOrd f).phase = s.phase := rfl
@[simp] theorem State.onOrd_mem : (s.onOrd f).mem = s.mem := rfl
@[simp] theorem State.onOrd_notices : (s.onOrd f).notices = s.notices := rfl
@[simp] theorem State.onOrd_mask : (s.onOrd f).mask = s.mask := rfl
@[simp] theorem State.onOrd_refresh : (s.onOrd f).refresh = s.refresh := rfl
@[simp] theorem State.onOrd_arbLast : (s.onOrd f).arbLast = s.arbLast := rfl
@[simp] theorem State.onOrd_frameOk : (s.onOrd f).frameOk = s.frameOk := rfl
@[simp] theorem State.onOrd_inputs : (s.onOrd f).inputs = s.inputs := rfl
@[simp] theorem State.onOrd_pins : (s.onOrd f).pins = s.pins := rfl
@[simp] theorem State.onOrd_car : (s.onOrd f).car = s.car := rfl
@[simp] theorem State.onOrd_time : (s.onOrd f).time = s.time := rfl
@[simp] theorem State.onOrd_links : (s.onOrd f).links = s.links := rfl
@[simp] theorem State.onOrd_eng : (s.onOrd f).eng = s.eng := rfl
@[simp] theorem State.onOrd_prof : (s.onOrd f).prof = s.prof := rfl
@[simp] theorem State.onOrd_std : (s.onOrd f).std = s.std := rfl
@[simp] theorem State.onOrd_sheet : (s.onOrd f).sheet = s.sheet := rfl
@[simp] theorem State.onOrd_alarm : (s.onOrd f).alarm = s.alarm := rfl
@[simp] theorem State.onOrd_exp : (s.onOrd f).exp = s.exp := rfl
@[simp] theorem State.onOrd_portA : (s.onOrd f).portA = s.portA := rfl
@[simp] theorem State.onOrd_portB : (s.onOrd f).portB = s.portB := rfl
@[simp] theorem State.onOrd_guard : (s.onOrd f).guard = s.guard := rfl
@[simp] theorem State.onOrd_ord : (s.onOrd f).ord = f s.ord := rfl
@[simp] theorem State.onOrd_pending : (s.onOrd f).pending = s.pending := rfl

end onOrd

section onMem
variable (s : State) (f : Memory → Memory)

@[simp] theorem State.onMem_phase : (s.onMem f).phase = s.phase := rfl
@[simp] theorem State.onMem_mem : (s.onMem f).mem = f s.mem := rfl
@[simp] theorem State.onMem_notices : (s.onMem f).notices = s.notices := rfl
@[simp] theorem State.onMem_mask : (s.onMem f).mask = s.mask := rfl
@[simp] theorem State.onMem_refresh : (s.onMem f).refresh = s.refresh := rfl
@[simp] theorem State.onMem_arbLast : (s.onMem f).arbLast = s.arbLast := rfl
@[simp] theorem State.onMem_frameOk : (s.onMem f).frameOk = s.frameOk := rfl
@[simp] theorem State.onMem_inputs : (s.onMem f).inputs = s.inputs := rfl
@[simp] theorem State.onMem_pins : (s.onMem f).pins = s.pins := rfl
@[simp] theorem State.onMem_car : (s.onMem f).car = s.car := rfl
@[simp] theorem State.onMem_time : (s.onMem f).time = s.time := rfl
@[simp] theorem State.onMem_links : (s.onMem f).links = s.links := rfl
@[simp] theorem State.onMem_eng : (s.onMem f).eng = s.eng := rfl
@[simp] theorem State.onMem_prof : (s.onMem f).prof = s.prof := rfl
@[simp] theorem State.onMem_std : (s.onMem f).std = s.std := rfl
@[simp] theorem State.onMem_sheet : (s.onMem f).sheet = s.sheet := rfl
@[simp] theorem State.onMem_alarm : (s.onMem f).alarm = s.alarm := rfl
@[simp] theorem State.onMem_exp : (s.onMem f).exp = s.exp := rfl
@[simp] theorem State.onMem_portA : (s.onMem f).portA = s.portA := rfl
@[simp] theorem State.onMem_portB : (s.onMem f).portB = s.portB := rfl
@[simp] theorem State.onMem_guard : (s.onMem f).guard = s.guard := rfl
@[simp] theorem State.onMem_ord : (s.onMem f).ord = s.ord := rfl
@[simp] theorem State.onMem_pending : (s.onMem f).pending = s.pending := rfl

end onMem

section onInputs
variable (s : State) (f : PerBeam DriveInputs → PerBeam DriveInputs)

@[simp] theorem State.onInputs_phase : (s.onInputs f).phase = s.phase := rfl
@[simp] theorem State.onInputs_mem : (s.onInputs f).mem = s.mem := rfl
@[simp] theorem State.onInputs_notices : (s.onInputs f).notices = s.notices := rfl
@[simp] theorem State.onInputs_mask : (s.onInputs f).mask = s.mask := rfl
@[simp] theorem State.onInputs_refresh : (s.onInputs f).refresh = s.refresh := rfl
@[simp] theorem State.onInputs_arbLast : (s.onInputs f).arbLast = s.arbLast := rfl
@[simp] theorem State.onInputs_frameOk : (s.onInputs f).frameOk = s.frameOk := rfl
@[simp] theorem State.onInputs_inputs : (s.onInputs f).inputs = f s.inputs := rfl
@[simp] theorem State.onInputs_pins : (s.onInputs f).pins = s.pins := rfl
@[simp] theorem State.onInputs_car : (s.onInputs f).car = s.car := rfl
@[simp] theorem State.onInputs_time : (s.onInputs f).time = s.time := rfl
@[simp] theorem State.onInputs_links : (s.onInputs f).links = s.links := rfl
@[simp] theorem State.onInputs_eng : (s.onInputs f).eng = s.eng := rfl
@[simp] theorem State.onInputs_prof : (s.onInputs f).prof = s.prof := rfl
@[simp] theorem State.onInputs_std : (s.onInputs f).std = s.std := rfl
@[simp] theorem State.onInputs_sheet : (s.onInputs f).sheet = s.sheet := rfl
@[simp] theorem State.onInputs_alarm : (s.onInputs f).alarm = s.alarm := rfl
@[simp] theorem State.onInputs_exp : (s.onInputs f).exp = s.exp := rfl
@[simp] theorem State.onInputs_portA : (s.onInputs f).portA = s.portA := rfl
@[simp] theorem State.onInputs_portB : (s.onInputs f).portB = s.portB := rfl
@[simp] theorem State.onInputs_guard : (s.onInputs f).guard = s.guard := rfl
@[simp] theorem State.onInputs_ord : (s.onInputs f).ord = s.ord := rfl
@[simp] theorem State.onInputs_pending : (s.onInputs f).pending = s.pending := rfl

end onInputs

section withNotices
variable (s : State) (v : BitVec 7)

@[simp] theorem State.withNotices_phase : (s.withNotices v).phase = s.phase := rfl
@[simp] theorem State.withNotices_mem : (s.withNotices v).mem = s.mem := rfl
@[simp] theorem State.withNotices_notices : (s.withNotices v).notices = v := rfl
@[simp] theorem State.withNotices_mask : (s.withNotices v).mask = s.mask := rfl
@[simp] theorem State.withNotices_refresh : (s.withNotices v).refresh = s.refresh := rfl
@[simp] theorem State.withNotices_arbLast : (s.withNotices v).arbLast = s.arbLast := rfl
@[simp] theorem State.withNotices_frameOk : (s.withNotices v).frameOk = s.frameOk := rfl
@[simp] theorem State.withNotices_inputs : (s.withNotices v).inputs = s.inputs := rfl
@[simp] theorem State.withNotices_pins : (s.withNotices v).pins = s.pins := rfl
@[simp] theorem State.withNotices_car : (s.withNotices v).car = s.car := rfl
@[simp] theorem State.withNotices_time : (s.withNotices v).time = s.time := rfl
@[simp] theorem State.withNotices_links : (s.withNotices v).links = s.links := rfl
@[simp] theorem State.withNotices_eng : (s.withNotices v).eng = s.eng := rfl
@[simp] theorem State.withNotices_prof : (s.withNotices v).prof = s.prof := rfl
@[simp] theorem State.withNotices_std : (s.withNotices v).std = s.std := rfl
@[simp] theorem State.withNotices_sheet : (s.withNotices v).sheet = s.sheet := rfl
@[simp] theorem State.withNotices_alarm : (s.withNotices v).alarm = s.alarm := rfl
@[simp] theorem State.withNotices_exp : (s.withNotices v).exp = s.exp := rfl
@[simp] theorem State.withNotices_portA : (s.withNotices v).portA = s.portA := rfl
@[simp] theorem State.withNotices_portB : (s.withNotices v).portB = s.portB := rfl
@[simp] theorem State.withNotices_guard : (s.withNotices v).guard = s.guard := rfl
@[simp] theorem State.withNotices_ord : (s.withNotices v).ord = s.ord := rfl
@[simp] theorem State.withNotices_pending : (s.withNotices v).pending = s.pending := rfl

end withNotices

section withRefresh
variable (s : State) (v : Option Refresh)

@[simp] theorem State.withRefresh_phase : (s.withRefresh v).phase = s.phase := rfl
@[simp] theorem State.withRefresh_mem : (s.withRefresh v).mem = s.mem := rfl
@[simp] theorem State.withRefresh_notices : (s.withRefresh v).notices = s.notices := rfl
@[simp] theorem State.withRefresh_mask : (s.withRefresh v).mask = s.mask := rfl
@[simp] theorem State.withRefresh_refresh : (s.withRefresh v).refresh = v := rfl
@[simp] theorem State.withRefresh_arbLast : (s.withRefresh v).arbLast = s.arbLast := rfl
@[simp] theorem State.withRefresh_frameOk : (s.withRefresh v).frameOk = s.frameOk := rfl
@[simp] theorem State.withRefresh_inputs : (s.withRefresh v).inputs = s.inputs := rfl
@[simp] theorem State.withRefresh_pins : (s.withRefresh v).pins = s.pins := rfl
@[simp] theorem State.withRefresh_car : (s.withRefresh v).car = s.car := rfl
@[simp] theorem State.withRefresh_time : (s.withRefresh v).time = s.time := rfl
@[simp] theorem State.withRefresh_links : (s.withRefresh v).links = s.links := rfl
@[simp] theorem State.withRefresh_eng : (s.withRefresh v).eng = s.eng := rfl
@[simp] theorem State.withRefresh_prof : (s.withRefresh v).prof = s.prof := rfl
@[simp] theorem State.withRefresh_std : (s.withRefresh v).std = s.std := rfl
@[simp] theorem State.withRefresh_sheet : (s.withRefresh v).sheet = s.sheet := rfl
@[simp] theorem State.withRefresh_alarm : (s.withRefresh v).alarm = s.alarm := rfl
@[simp] theorem State.withRefresh_exp : (s.withRefresh v).exp = s.exp := rfl
@[simp] theorem State.withRefresh_portA : (s.withRefresh v).portA = s.portA := rfl
@[simp] theorem State.withRefresh_portB : (s.withRefresh v).portB = s.portB := rfl
@[simp] theorem State.withRefresh_guard : (s.withRefresh v).guard = s.guard := rfl
@[simp] theorem State.withRefresh_ord : (s.withRefresh v).ord = s.ord := rfl
@[simp] theorem State.withRefresh_pending : (s.withRefresh v).pending = s.pending := rfl

end withRefresh

section withArbLast
variable (s : State) (v : Requester)

@[simp] theorem State.withArbLast_phase : (s.withArbLast v).phase = s.phase := rfl
@[simp] theorem State.withArbLast_mem : (s.withArbLast v).mem = s.mem := rfl
@[simp] theorem State.withArbLast_notices : (s.withArbLast v).notices = s.notices := rfl
@[simp] theorem State.withArbLast_mask : (s.withArbLast v).mask = s.mask := rfl
@[simp] theorem State.withArbLast_refresh : (s.withArbLast v).refresh = s.refresh := rfl
@[simp] theorem State.withArbLast_arbLast : (s.withArbLast v).arbLast = v := rfl
@[simp] theorem State.withArbLast_frameOk : (s.withArbLast v).frameOk = s.frameOk := rfl
@[simp] theorem State.withArbLast_inputs : (s.withArbLast v).inputs = s.inputs := rfl
@[simp] theorem State.withArbLast_pins : (s.withArbLast v).pins = s.pins := rfl
@[simp] theorem State.withArbLast_car : (s.withArbLast v).car = s.car := rfl
@[simp] theorem State.withArbLast_time : (s.withArbLast v).time = s.time := rfl
@[simp] theorem State.withArbLast_links : (s.withArbLast v).links = s.links := rfl
@[simp] theorem State.withArbLast_eng : (s.withArbLast v).eng = s.eng := rfl
@[simp] theorem State.withArbLast_prof : (s.withArbLast v).prof = s.prof := rfl
@[simp] theorem State.withArbLast_std : (s.withArbLast v).std = s.std := rfl
@[simp] theorem State.withArbLast_sheet : (s.withArbLast v).sheet = s.sheet := rfl
@[simp] theorem State.withArbLast_alarm : (s.withArbLast v).alarm = s.alarm := rfl
@[simp] theorem State.withArbLast_exp : (s.withArbLast v).exp = s.exp := rfl
@[simp] theorem State.withArbLast_portA : (s.withArbLast v).portA = s.portA := rfl
@[simp] theorem State.withArbLast_portB : (s.withArbLast v).portB = s.portB := rfl
@[simp] theorem State.withArbLast_guard : (s.withArbLast v).guard = s.guard := rfl
@[simp] theorem State.withArbLast_ord : (s.withArbLast v).ord = s.ord := rfl
@[simp] theorem State.withArbLast_pending : (s.withArbLast v).pending = s.pending := rfl

end withArbLast

end Sys2Proof.Machine
end

