-- ==== Sys2Proof/Laws/Memory.lean ====
section
/-! SUPPORT. The laws of the exchange memory: a read after a write gives the value written at the same byte and leaves every other
byte, and every operation keeps the canonical form. -/

set_option Elab.async false

namespace Sys2Proof.Machine

open Sys2Proof

@[simp] theorem Memory.read_nil (a : Nat) : Memory.read [] a = 0 := rfl

/-- Nothing below the first address of a canonical memory is listed. -/
theorem Memory.read_below {m : Memory} {lo a : Nat} (h : Memory.wfFrom lo m = true) (ha : a < lo) : Memory.read m a = 0 := by
  induction m generalizing lo with
  | nil => rfl
  | cons c m ih =>
    obtain ⟨k, v⟩ := c
    simp only [Memory.wfFrom, Bool.and_eq_true, decide_eq_true_eq] at h
    have hk : a ≠ k := by omega
    simp only [Memory.read, hk, if_false]
    exact ih h.2 (by omega)

/-- A canonical memory is canonical from any lower bound. -/
theorem Memory.wfFrom_mono {m : Memory} {lo lo' : Nat} (h : Memory.wfFrom lo m = true) (hl : lo' ≤ lo) :
    Memory.wfFrom lo' m = true := by
  cases m with
  | nil => rfl
  | cons c m =>
    simp only [Memory.wfFrom, Bool.and_eq_true, decide_eq_true_eq] at h ⊢
    exact ⟨⟨⟨by omega, h.1.1.2⟩, h.1.2⟩, h.2⟩

/-- A write keeps the canonical form from a bound at or below its address. -/
theorem Memory.write_wfFrom {m : Memory} {lo a : Nat} (v : Byte) (h : Memory.wfFrom lo m = true) (hl : lo ≤ a)
    (ha : a < 65536) : Memory.wfFrom lo (m.write a v) = true := by
  induction m generalizing lo with
  | nil =>
    by_cases hv : v = Memory.unlisted
    · simp [Memory.write, hv, Memory.wfFrom]
    · simp [Memory.write, hv, Memory.wfFrom, hl, ha]
  | cons c m ih =>
    obtain ⟨k, w⟩ := c
    have h' := h
    simp only [Memory.wfFrom, Bool.and_eq_true, decide_eq_true_eq] at h
    obtain ⟨⟨⟨h1, h2⟩, h3⟩, h4⟩ := h
    by_cases hak : a < k
    · by_cases hv : v = Memory.unlisted
      · simp only [Memory.write, hak, hv, if_true]; exact h'
      · simp only [Memory.write, hak, hv, if_true, if_false, Memory.wfFrom, Bool.and_eq_true, decide_eq_true_eq]
        exact ⟨⟨⟨hl, ha⟩, hv⟩, ⟨⟨by omega, h2⟩, h3⟩, h4⟩
    · by_cases he : a = k
      · subst he
        by_cases hv : v = Memory.unlisted
        · simp only [Memory.write, hv, Nat.lt_irrefl, if_false, if_true]; exact Memory.wfFrom_mono h4 (by omega)
        · simp only [Memory.write, hv, Nat.lt_irrefl, if_false, if_true, Memory.wfFrom, Bool.and_eq_true, decide_eq_true_eq]
          exact ⟨⟨⟨h1, h2⟩, hv⟩, h4⟩
      · simp only [Memory.write, hak, he, if_false, Memory.wfFrom, Bool.and_eq_true, decide_eq_true_eq]
        exact ⟨⟨⟨h1, h2⟩, h3⟩, ih h4 (by omega)⟩

/-- The byte read after a write to a canonical memory. -/
theorem Memory.read_write {m : Memory} {lo a : Nat} (v : Byte) (b : Nat) (h : Memory.wfFrom lo m = true) (hl : lo ≤ a) :
    (m.write a v).read b = if b = a then v else m.read b := by
  induction m generalizing lo with
  | nil =>
    by_cases hv : v = Memory.unlisted
    · simp [Memory.write, hv, Memory.unlisted]
    · have hv' : ¬v = 0#8 := hv
      simp [Memory.write, hv', Memory.read, Memory.unlisted]
  | cons c m ih =>
    obtain ⟨k, w⟩ := c
    have h' := h
    simp only [Memory.wfFrom, Bool.and_eq_true, decide_eq_true_eq] at h
    obtain ⟨⟨⟨h1, h2⟩, h3⟩, h4⟩ := h
    by_cases hak : a < k
    · by_cases hv : v = Memory.unlisted
      · simp only [Memory.write, hak, hv, if_true]
        by_cases hb : b = a
        · subst hb
          have hbk : b ≠ k := by omega
          simp only [Memory.read, hbk, if_false, if_true, Memory.unlisted]
          exact Memory.read_below h4 (by omega)
        · simp [hb]
      · simp only [Memory.write, hak, hv, if_true, if_false, Memory.read]
    · by_cases he : a = k
      · subst he
        by_cases hv : v = Memory.unlisted
        · simp only [Memory.write, hv, Nat.lt_irrefl, if_false, if_true, Memory.read]
          by_cases hb : b = a
          · subst hb; simp only [if_true, Memory.unlisted]; exact Memory.read_below h4 (by omega)
          · simp [hb]
        · simp only [Memory.write, hv, Nat.lt_irrefl, if_false, if_true, Memory.read]
          by_cases hb : b = a <;> simp [hb]
      · simp only [Memory.write, hak, he, if_false, Memory.read, ih h4 (show k + 1 ≤ a by omega)]
        by_cases hb : b = k
        · have : b ≠ a := by omega
          simp [hb, show k ≠ a by omega]
        · simp [hb]

/-- A byte write keeps the canonical form. -/
theorem Memory.write_wf {m : Memory} {a : Nat} (v : Byte) (h : m.wf = true) (ha : a < 65536) : (m.write a v).wf = true :=
  Memory.write_wfFrom v h (Nat.zero_le a) ha

/-- The byte read after a byte write. -/
theorem Memory.read_write_wf {m : Memory} (a : Nat) (v : Byte) (b : Nat) (h : m.wf = true) :
    (m.write a v).read b = if b = a then v else m.read b :=
  Memory.read_write v b h (Nat.zero_le a)

/-- A half store keeps the canonical form. -/
theorem Memory.writeHalf_wf {m : Memory} {a : Nat} (x : Half) (h : m.wf = true) (ha : a + 1 < 65536) :
    (m.writeHalf a x).wf = true :=
  Memory.write_wf _ (Memory.write_wf _ h (by omega)) ha

theorem wordAddr_lt (w : WordIdx) : wordAddr w + 3 < 65536 := by
  have := w.isLt
  simp only [wordAddr]; omega

/-- A word store keeps the canonical form. -/
theorem Memory.writeWord_wf {m : Memory} (w : WordIdx) (v : Word) (h : m.wf = true) : (m.writeWord w v).wf = true := by
  have := wordAddr_lt w
  exact Memory.writeHalf_wf _ (Memory.writeHalf_wf _ h (by omega)) (by omega)

/-- A byte outside a stored half is unchanged. -/
theorem Memory.read_writeHalf_other {m : Memory} {a b : Nat} (x : Half) (h : m.wf = true) (ha : a + 1 < 65536)
    (h1 : b ≠ a) (h2 : b ≠ a + 1) : (m.writeHalf a x).read b = m.read b := by
  simp only [Memory.writeHalf]
  rw [Memory.read_write_wf _ _ _ (Memory.write_wf _ h (by omega)), Memory.read_write_wf _ _ _ h]
  simp [h1, h2]

/-- A byte outside a stored word is unchanged. -/
theorem Memory.read_writeWord_other {m : Memory} {w : WordIdx} {b : Nat} (v : Word) (h : m.wf = true)
    (hb : b < wordAddr w ∨ wordAddr w + 4 ≤ b) : (m.writeWord w v).read b = m.read b := by
  have := wordAddr_lt w
  simp only [Memory.writeWord]
  rw [Memory.read_writeHalf_other _ (Memory.writeHalf_wf _ h (by omega)) (by omega) (by omega) (by omega),
    Memory.read_writeHalf_other _ h (by omega) (by omega) (by omega)]

/-- The half read where a half was stored. -/
theorem Memory.readHalf_writeHalf {m : Memory} {a : Nat} (x : Half) (h : m.wf = true) (ha : a + 1 < 65536) :
    (m.writeHalf a x).readHalf a = x := by
  simp only [Memory.readHalf, Memory.writeHalf]
  rw [Memory.read_write_wf _ _ _ (Memory.write_wf _ h (by omega)), Memory.read_write_wf _ _ _ (Memory.write_wf _ h (by omega)),
    Memory.read_write_wf _ _ _ h, Memory.read_write_wf _ _ _ h]
  simp only [if_true, show a ≠ a + 1 by omega, if_false]
  exact BitVec.extractLsb'_append_extractLsb'_eq_extractLsb' (by decide) |>.trans (by simp)

/-- The half read elsewhere than where a half was stored. -/
theorem Memory.readHalf_writeHalf_other {m : Memory} {a b : Nat} (x : Half) (h : m.wf = true) (ha : a + 1 < 65536)
    (hb : b + 2 ≤ a ∨ a + 2 ≤ b) : (m.writeHalf a x).readHalf b = m.readHalf b := by
  simp only [Memory.readHalf]
  rw [Memory.read_writeHalf_other _ h ha (by omega) (by omega), Memory.read_writeHalf_other _ h ha (by omega) (by omega)]

/-- The word read where a word was stored. -/
theorem Memory.readWord_writeWord {m : Memory} (w : WordIdx) (v : Word) (h : m.wf = true) :
    (m.writeWord w v).readWord w = v := by
  have := wordAddr_lt w
  simp only [Memory.readWord, Memory.writeWord]
  rw [Memory.readHalf_writeHalf _ (Memory.writeHalf_wf _ h (by omega)) (by omega),
    Memory.readHalf_writeHalf_other _ (Memory.writeHalf_wf _ h (by omega)) (by omega) (by omega),
    Memory.readHalf_writeHalf _ h (by omega)]
  simp only [joinHalves, lowHalf, highHalf]
  exact BitVec.extractLsb'_append_extractLsb'_eq_extractLsb' (by decide) |>.trans (by simp)

/-- The word read elsewhere than where a word was stored. -/
theorem Memory.readWord_writeWord_other {m : Memory} {w u : WordIdx} (v : Word) (h : m.wf = true) (hu : u ≠ w) :
    (m.writeWord w v).readWord u = m.readWord u := by
  have hne : u.toNat ≠ w.toNat := fun e => hu (BitVec.eq_of_toNat_eq e)
  have hw := wordAddr_lt w
  have e1 : wordAddr u = 4 * u.toNat := rfl
  have e2 : wordAddr w = 4 * w.toNat := rfl
  simp only [Memory.readWord, Memory.readHalf]
  rw [Memory.read_writeWord_other v h (by omega), Memory.read_writeWord_other v h (by omega),
    Memory.read_writeWord_other v h (by omega), Memory.read_writeWord_other v h (by omega)]

@[simp] theorem State.storeWord_mem (s : State) (w : WordIdx) (v : Word) : (s.storeWord w v).mem = s.mem.writeWord w v := rfl

/-- The memory right after reset has the canonical form. -/
theorem State.reset_mem_wf : State.reset.mem.wf = true := rfl

end Sys2Proof.Machine
end

