-- ==== Sys2Proof/Laws/Frames.lean ====
section
/-! SUPPORT. The frame of every shared operation: the fields it leaves as they are. `Surround` gathers the fields that no operation of
the nine blocks behind the carriages, the profile and the alarms touches. -/

set_option Elab.async false

namespace Sys2Proof.Machine

open Sys2Proof

/-- The fields outside the nine blocks that act together at a traverse event. -/
structure Surround where
  phase : Phase
  mem : Memory
  mask : BitVec 7
  refresh : Option Refresh
  frameOk : Bool
  inputs : PerBeam DriveInputs
  pins : Pins
  time : TimeBase
  links : PerBeam Receiver
  exp : ExportLink
  portA : PortA
  portB : PortB
  guard : AccessGuard
  pending : List Instr

/-- The surround of a state. -/
def State.surround (s : State) : Surround :=
  ⟨s.phase, s.mem, s.mask, s.refresh, s.frameOk, s.inputs, s.pins, s.time, s.links, s.exp, s.portA, s.portB, s.guard,
    s.pending⟩

section
variable (s : State)
@[simp] theorem State.onCar_surround (f : CarriageController → CarriageController) : (s.onCar f).surround = s.surround := rfl
@[simp] theorem State.onEng_surround (f : Engine → Engine) : (s.onEng f).surround = s.surround := rfl
@[simp] theorem State.onProf_surround (f : ProfileEngine → ProfileEngine) : (s.onProf f).surround = s.surround := rfl
@[simp] theorem State.onStd_surround (f : StdUnit → StdUnit) : (s.onStd f).surround = s.surround := rfl
@[simp] theorem State.onSheet_surround (f : SheetMonitor → SheetMonitor) : (s.onSheet f).surround = s.surround := rfl
@[simp] theorem State.onAlarm_surround (f : AlarmUnit → AlarmUnit) : (s.onAlarm f).surround = s.surround := rfl
@[simp] theorem State.onOrd_surround (f : OrderUnit → OrderUnit) : (s.onOrd f).surround = s.surround := rfl
@[simp] theorem State.withNotices_surround (v : BitVec 7) : (s.withNotices v).surround = s.surround := rfl
@[simp] theorem State.withArbLast_surround (v : Requester) : (s.withArbLast v).surround = s.surround := rfl
@[simp] theorem State.storeWord_phase (w : WordIdx) (v : Word) : (s.storeWord w v).phase = s.phase := rfl
@[simp] theorem State.storeWord_notices (w : WordIdx) (v : Word) : (s.storeWord w v).notices = s.notices := rfl
@[simp] theorem State.storeWord_mask (w : WordIdx) (v : Word) : (s.storeWord w v).mask = s.mask := rfl
@[simp] theorem State.storeWord_refresh (w : WordIdx) (v : Word) : (s.storeWord w v).refresh = s.refresh := rfl
@[simp] theorem State.storeWord_arbLast (w : WordIdx) (v : Word) : (s.storeWord w v).arbLast = s.arbLast := rfl
@[simp] theorem State.storeWord_frameOk (w : WordIdx) (v : Word) : (s.storeWord w v).frameOk = s.frameOk := rfl
@[simp] theorem State.storeWord_inputs (w : WordIdx) (v : Word) : (s.storeWord w v).inputs = s.inputs := rfl
@[simp] theorem State.storeWord_pins (w : WordIdx) (v : Word) : (s.storeWord w v).pins = s.pins := rfl
@[simp] theorem State.storeWord_car (w : WordIdx) (v : Word) : (s.storeWord w v).car = s.car := rfl
@[simp] theorem State.storeWord_time (w : WordIdx) (v : Word) : (s.storeWord w v).time = s.time := rfl
@[simp] theorem State.storeWord_links (w : WordIdx) (v : Word) : (s.storeWord w v).links = s.links := rfl
@[simp] theorem State.storeWord_eng (w : WordIdx) (v : Word) : (s.storeWord w v).eng = s.eng := rfl
@[simp] theorem State.storeWord_prof (w : WordIdx) (v : Word) : (s.storeWord w v).prof = s.prof := rfl
@[simp] theorem State.storeWord_std (w : WordIdx) (v : Word) : (s.storeWord w v).std = s.std := rfl
@[simp] theorem State.storeWord_sheet (w : WordIdx) (v : Word) : (s.storeWord w v).sheet = s.sheet := rfl
@[simp] theorem State.storeWord_alarm (w : WordIdx) (v : Word) : (s.storeWord w v).alarm = s.alarm := rfl
@[simp] theorem State.storeWord_exp (w : WordIdx) (v : Word) : (s.storeWord w v).exp = s.exp := rfl
@[simp] theorem State.storeWord_portA (w : WordIdx) (v : Word) : (s.storeWord w v).portA = s.portA := rfl
@[simp] theorem State.storeWord_portB (w : WordIdx) (v : Word) : (s.storeWord w v).portB = s.portB := rfl
@[simp] theorem State.storeWord_guard (w : WordIdx) (v : Word) : (s.storeWord w v).guard = s.guard := rfl
@[simp] theorem State.storeWord_ord (w : WordIdx) (v : Word) : (s.storeWord w v).ord = s.ord := rfl
@[simp] theorem State.storeWord_pending (w : WordIdx) (v : Word) : (s.storeWord w v).pending = s.pending := rfl
end

@[simp] theorem State.raise_surround (s : State) (n : Notice) : (s.raise n).surround = s.surround := by
  simp [State.raise]

@[simp] theorem State.raise_alarm (s : State) (n : Notice) : (s.raise n).alarm = s.alarm := by
  simp [State.raise]

@[simp] theorem State.raise_arbLast (s : State) (n : Notice) : (s.raise n).arbLast = s.arbLast := by
  simp [State.raise]

@[simp] theorem State.raise_car (s : State) (n : Notice) : (s.raise n).car = s.car := by
  simp [State.raise]

@[simp] theorem State.raise_eng (s : State) (n : Notice) : (s.raise n).eng = s.eng := by
  simp [State.raise]

@[simp] theorem State.raise_ord (s : State) (n : Notice) : (s.raise n).ord = s.ord := by
  simp [State.raise]

@[simp] theorem State.raise_prof (s : State) (n : Notice) : (s.raise n).prof = s.prof := by
  simp [State.raise]

@[simp] theorem State.raise_sheet (s : State) (n : Notice) : (s.raise n).sheet = s.sheet := by
  simp [State.raise]

@[simp] theorem State.raise_std (s : State) (n : Notice) : (s.raise n).std = s.std := by
  simp [State.raise]

@[simp] theorem State.raiseIf_surround (s : State) (c : Bool) (n : Notice) : (s.raiseIf c n).surround = s.surround := by
  simp only [State.raiseIf]; split <;> simp

@[simp] theorem State.raiseIf_alarm (s : State) (c : Bool) (n : Notice) : (s.raiseIf c n).alarm = s.alarm := by
  simp only [State.raiseIf]; split <;> simp

@[simp] theorem State.raiseIf_arbLast (s : State) (c : Bool) (n : Notice) : (s.raiseIf c n).arbLast = s.arbLast := by
  simp only [State.raiseIf]; split <;> simp

@[simp] theorem State.raiseIf_car (s : State) (c : Bool) (n : Notice) : (s.raiseIf c n).car = s.car := by
  simp only [State.raiseIf]; split <;> simp

@[simp] theorem State.raiseIf_eng (s : State) (c : Bool) (n : Notice) : (s.raiseIf c n).eng = s.eng := by
  simp only [State.raiseIf]; split <;> simp

@[simp] theorem State.raiseIf_ord (s : State) (c : Bool) (n : Notice) : (s.raiseIf c n).ord = s.ord := by
  simp only [State.raiseIf]; split <;> simp

@[simp] theorem State.raiseIf_prof (s : State) (c : Bool) (n : Notice) : (s.raiseIf c n).prof = s.prof := by
  simp only [State.raiseIf]; split <;> simp

@[simp] theorem State.raiseIf_sheet (s : State) (c : Bool) (n : Notice) : (s.raiseIf c n).sheet = s.sheet := by
  simp only [State.raiseIf]; split <;> simp

@[simp] theorem State.raiseIf_std (s : State) (c : Bool) (n : Notice) : (s.raiseIf c n).std = s.std := by
  simp only [State.raiseIf]; split <;> simp

@[simp] theorem State.raise_pending (s : State) (n : Notice) : (s.raise n).pending = s.pending := rfl

@[simp] theorem State.raiseIf_pending (s : State) (c : Bool) (n : Notice) : (s.raiseIf c n).pending = s.pending := by
  simp only [State.raiseIf]; split <;> rfl

@[simp] theorem State.raise_phase (s : State) (n : Notice) : (s.raise n).phase = s.phase := rfl

@[simp] theorem State.raiseIf_phase (s : State) (c : Bool) (n : Notice) : (s.raiseIf c n).phase = s.phase := by
  simp only [State.raiseIf]; split <;> rfl

@[simp] theorem State.raise_mem (s : State) (n : Notice) : (s.raise n).mem = s.mem := rfl

@[simp] theorem State.raiseIf_mem (s : State) (c : Bool) (n : Notice) : (s.raiseIf c n).mem = s.mem := by
  simp only [State.raiseIf]; split <;> rfl

@[simp] theorem queueAnswer_surround (slot : Slot) (c : ResultCode) (value : Word) (b : Bool) (s : State) :
    (queueAnswer slot c value b s).surround = s.surround := by
  simp [queueAnswer]

@[simp] theorem queueAnswer_alarm (slot : Slot) (c : ResultCode) (value : Word) (b : Bool) (s : State) :
    (queueAnswer slot c value b s).alarm = s.alarm := by
  simp [queueAnswer]

@[simp] theorem queueAnswer_arbLast (slot : Slot) (c : ResultCode) (value : Word) (b : Bool) (s : State) :
    (queueAnswer slot c value b s).arbLast = s.arbLast := by
  simp [queueAnswer]

@[simp] theorem queueAnswer_car (slot : Slot) (c : ResultCode) (value : Word) (b : Bool) (s : State) :
    (queueAnswer slot c value b s).car = s.car := by
  simp [queueAnswer]

@[simp] theorem queueAnswer_eng (slot : Slot) (c : ResultCode) (value : Word) (b : Bool) (s : State) :
    (queueAnswer slot c value b s).eng = s.eng := by
  simp [queueAnswer]

@[simp] theorem queueAnswer_notices (slot : Slot) (c : ResultCode) (value : Word) (b : Bool) (s : State) :
    (queueAnswer slot c value b s).notices = s.notices := by
  simp [queueAnswer]

@[simp] theorem queueAnswer_prof (slot : Slot) (c : ResultCode) (value : Word) (b : Bool) (s : State) :
    (queueAnswer slot c value b s).prof = s.prof := by
  simp [queueAnswer]

@[simp] theorem queueAnswer_sheet (slot : Slot) (c : ResultCode) (value : Word) (b : Bool) (s : State) :
    (queueAnswer slot c value b s).sheet = s.sheet := by
  simp [queueAnswer]

@[simp] theorem queueAnswer_std (slot : Slot) (c : ResultCode) (value : Word) (b : Bool) (s : State) :
    (queueAnswer slot c value b s).std = s.std := by
  simp [queueAnswer]

@[simp] theorem answerEnded_surround (slot : Slot) (c : ResultCode) (value : Word) (s : State) :
    (answerEnded slot c value s).surround = s.surround := by
  simp [answerEnded]

@[simp] theorem answerEnded_alarm (slot : Slot) (c : ResultCode) (value : Word) (s : State) :
    (answerEnded slot c value s).alarm = s.alarm := by
  simp [answerEnded]

@[simp] theorem answerEnded_arbLast (slot : Slot) (c : ResultCode) (value : Word) (s : State) :
    (answerEnded slot c value s).arbLast = s.arbLast := by
  simp [answerEnded]

@[simp] theorem answerEnded_car (slot : Slot) (c : ResultCode) (value : Word) (s : State) :
    (answerEnded slot c value s).car = s.car := by
  simp [answerEnded]

@[simp] theorem answerEnded_eng (slot : Slot) (c : ResultCode) (value : Word) (s : State) :
    (answerEnded slot c value s).eng = s.eng := by
  simp [answerEnded]

@[simp] theorem answerEnded_notices (slot : Slot) (c : ResultCode) (value : Word) (s : State) :
    (answerEnded slot c value s).notices = s.notices := by
  simp [answerEnded]

@[simp] theorem answerEnded_prof (slot : Slot) (c : ResultCode) (value : Word) (s : State) :
    (answerEnded slot c value s).prof = s.prof := by
  simp [answerEnded]

@[simp] theorem answerEnded_sheet (slot : Slot) (c : ResultCode) (value : Word) (s : State) :
    (answerEnded slot c value s).sheet = s.sheet := by
  simp [answerEnded]

@[simp] theorem answerEnded_std (slot : Slot) (c : ResultCode) (value : Word) (s : State) :
    (answerEnded slot c value s).std = s.std := by
  simp [answerEnded]

@[simp] theorem answer_surround (slot : Slot) (c : ResultCode) (value : Word) (s : State) : (answer slot c value s).surround = s.surround := by
  simp [answer]

@[simp] theorem answer_pending (slot : Slot) (c : ResultCode) (value : Word) (s : State) : (answer slot c value s).pending = s.pending :=
  congrArg Surround.pending (answer_surround slot c value s)

@[simp] theorem answer_phase (slot : Slot) (c : ResultCode) (value : Word) (s : State) : (answer slot c value s).phase = s.phase :=
  congrArg Surround.phase (answer_surround slot c value s)

@[simp] theorem answer_mem (slot : Slot) (c : ResultCode) (value : Word) (s : State) : (answer slot c value s).mem = s.mem :=
  congrArg Surround.mem (answer_surround slot c value s)

@[simp] theorem answer_alarm (slot : Slot) (c : ResultCode) (value : Word) (s : State) : (answer slot c value s).alarm = s.alarm := by
  simp [answer]

@[simp] theorem answer_arbLast (slot : Slot) (c : ResultCode) (value : Word) (s : State) : (answer slot c value s).arbLast = s.arbLast := by
  simp [answer]

@[simp] theorem answer_car (slot : Slot) (c : ResultCode) (value : Word) (s : State) : (answer slot c value s).car = s.car := by
  simp [answer]

@[simp] theorem answer_eng (slot : Slot) (c : ResultCode) (value : Word) (s : State) : (answer slot c value s).eng = s.eng := by
  simp [answer]

@[simp] theorem answer_notices (slot : Slot) (c : ResultCode) (value : Word) (s : State) : (answer slot c value s).notices = s.notices := by
  simp [answer]

@[simp] theorem answer_prof (slot : Slot) (c : ResultCode) (value : Word) (s : State) : (answer slot c value s).prof = s.prof := by
  simp [answer]

@[simp] theorem answer_sheet (slot : Slot) (c : ResultCode) (value : Word) (s : State) : (answer slot c value s).sheet = s.sheet := by
  simp [answer]

@[simp] theorem answer_std (slot : Slot) (c : ResultCode) (value : Word) (s : State) : (answer slot c value s).std = s.std := by
  simp [answer]

@[simp] theorem answerLong_surround (c : ResultCode) (value : Word) (s : State) : (answerLong c value s).surround = s.surround := by
  simp only [answerLong]; split <;> simp

@[simp] theorem answerLong_alarm (c : ResultCode) (value : Word) (s : State) : (answerLong c value s).alarm = s.alarm := by
  simp only [answerLong]; split <;> simp

@[simp] theorem answerLong_arbLast (c : ResultCode) (value : Word) (s : State) : (answerLong c value s).arbLast = s.arbLast := by
  simp only [answerLong]; split <;> simp

@[simp] theorem answerLong_eng (c : ResultCode) (value : Word) (s : State) : (answerLong c value s).eng = s.eng := by
  simp only [answerLong]; split <;> simp

@[simp] theorem answerLong_notices (c : ResultCode) (value : Word) (s : State) : (answerLong c value s).notices = s.notices := by
  simp only [answerLong]; split <;> simp

@[simp] theorem answerLong_prof (c : ResultCode) (value : Word) (s : State) : (answerLong c value s).prof = s.prof := by
  simp only [answerLong]; split <;> simp

@[simp] theorem answerLong_sheet (c : ResultCode) (value : Word) (s : State) : (answerLong c value s).sheet = s.sheet := by
  simp only [answerLong]; split <;> simp

@[simp] theorem answerLong_std (c : ResultCode) (value : Word) (s : State) : (answerLong c value s).std = s.std := by
  simp only [answerLong]; split <;> simp

@[simp] theorem passSlot_surround (slot : Slot) (s : State) : (passSlot slot s).surround = s.surround := by
  simp [passSlot]

@[simp] theorem passSlot_pending (slot : Slot) (s : State) : (passSlot slot s).pending = s.pending :=
  congrArg Surround.pending (passSlot_surround slot s)

@[simp] theorem passSlot_phase (slot : Slot) (s : State) : (passSlot slot s).phase = s.phase :=
  congrArg Surround.phase (passSlot_surround slot s)

@[simp] theorem passSlot_mem (slot : Slot) (s : State) : (passSlot slot s).mem = s.mem :=
  congrArg Surround.mem (passSlot_surround slot s)

/-- The passing of the long-order slot to a newer order changes nothing of the carriage controller but the slot. -/
theorem passSlot_car (slot : Slot) (s : State) :
    { (passSlot slot s).car with long := s.car.long, newer := s.car.newer } = s.car := by
  simp only [passSlot, State.onCar]; split <;> rfl

@[simp] theorem holdLong_surround (kind : LongKind) (slot : Slot) (s : State) : (holdLong kind slot s).surround = s.surround := by
  simp [holdLong]

@[simp] theorem holdLong_alarm (kind : LongKind) (slot : Slot) (s : State) : (holdLong kind slot s).alarm = s.alarm := by
  simp [holdLong]

@[simp] theorem holdLong_arbLast (kind : LongKind) (slot : Slot) (s : State) : (holdLong kind slot s).arbLast = s.arbLast := by
  simp [holdLong]

@[simp] theorem holdLong_eng (kind : LongKind) (slot : Slot) (s : State) : (holdLong kind slot s).eng = s.eng := by
  simp [holdLong]

@[simp] theorem holdLong_notices (kind : LongKind) (slot : Slot) (s : State) : (holdLong kind slot s).notices = s.notices := by
  simp [holdLong]

@[simp] theorem holdLong_ord (kind : LongKind) (slot : Slot) (s : State) : (holdLong kind slot s).ord = s.ord := by
  simp [holdLong]

@[simp] theorem holdLong_prof (kind : LongKind) (slot : Slot) (s : State) : (holdLong kind slot s).prof = s.prof := by
  simp [holdLong]

@[simp] theorem holdLong_sheet (kind : LongKind) (slot : Slot) (s : State) : (holdLong kind slot s).sheet = s.sheet := by
  simp [holdLong]

@[simp] theorem holdLong_std (kind : LongKind) (slot : Slot) (s : State) : (holdLong kind slot s).std = s.std := by
  simp [holdLong]

@[simp] theorem moveEntry_surround (k : AlarmKind) (e' : AlarmEntry) (s : State) : (moveEntry k e' s).surround = s.surround := by
  simp [moveEntry]

@[simp] theorem moveEntry_arbLast (k : AlarmKind) (e' : AlarmEntry) (s : State) : (moveEntry k e' s).arbLast = s.arbLast := by
  simp [moveEntry]

@[simp] theorem moveEntry_car (k : AlarmKind) (e' : AlarmEntry) (s : State) : (moveEntry k e' s).car = s.car := by
  simp [moveEntry]

@[simp] theorem moveEntry_eng (k : AlarmKind) (e' : AlarmEntry) (s : State) : (moveEntry k e' s).eng = s.eng := by
  simp [moveEntry]

@[simp] theorem moveEntry_ord (k : AlarmKind) (e' : AlarmEntry) (s : State) : (moveEntry k e' s).ord = s.ord := by
  simp [moveEntry]

@[simp] theorem moveEntry_prof (k : AlarmKind) (e' : AlarmEntry) (s : State) : (moveEntry k e' s).prof = s.prof := by
  simp [moveEntry]

@[simp] theorem moveEntry_sheet (k : AlarmKind) (e' : AlarmEntry) (s : State) : (moveEntry k e' s).sheet = s.sheet := by
  simp [moveEntry]

@[simp] theorem moveEntry_std (k : AlarmKind) (e' : AlarmEntry) (s : State) : (moveEntry k e' s).std = s.std := by
  simp [moveEntry]

@[simp] theorem giveCondition_surround (k : AlarmKind) (present : Bool) (s : State) : (giveCondition k present s).surround = s.surround := by
  simp [giveCondition]

@[simp] theorem giveCondition_pending (k : AlarmKind) (present : Bool) (s : State) : (giveCondition k present s).pending = s.pending :=
  congrArg Surround.pending (giveCondition_surround k present s)

@[simp] theorem giveCondition_phase (k : AlarmKind) (present : Bool) (s : State) : (giveCondition k present s).phase = s.phase :=
  congrArg Surround.phase (giveCondition_surround k present s)

@[simp] theorem giveCondition_mem (k : AlarmKind) (present : Bool) (s : State) : (giveCondition k present s).mem = s.mem :=
  congrArg Surround.mem (giveCondition_surround k present s)

@[simp] theorem giveCondition_arbLast (k : AlarmKind) (present : Bool) (s : State) : (giveCondition k present s).arbLast = s.arbLast := by
  simp [giveCondition]

@[simp] theorem giveCondition_car (k : AlarmKind) (present : Bool) (s : State) : (giveCondition k present s).car = s.car := by
  simp [giveCondition]

@[simp] theorem giveCondition_eng (k : AlarmKind) (present : Bool) (s : State) : (giveCondition k present s).eng = s.eng := by
  simp [giveCondition]

@[simp] theorem giveCondition_ord (k : AlarmKind) (present : Bool) (s : State) : (giveCondition k present s).ord = s.ord := by
  simp [giveCondition]

@[simp] theorem giveCondition_prof (k : AlarmKind) (present : Bool) (s : State) : (giveCondition k present s).prof = s.prof := by
  simp [giveCondition]

@[simp] theorem giveCondition_sheet (k : AlarmKind) (present : Bool) (s : State) : (giveCondition k present s).sheet = s.sheet := by
  simp [giveCondition]

@[simp] theorem giveCondition_std (k : AlarmKind) (present : Bool) (s : State) : (giveCondition k present s).std = s.std := by
  simp [giveCondition]

@[simp] theorem onOpenScan_surround (f : ScanRecord → ScanRecord) (s : State) : (onOpenScan f s).surround = s.surround := by
  simp [onOpenScan]

@[simp] theorem onOpenScan_alarm (f : ScanRecord → ScanRecord) (s : State) : (onOpenScan f s).alarm = s.alarm := by
  simp [onOpenScan]

@[simp] theorem onOpenScan_arbLast (f : ScanRecord → ScanRecord) (s : State) : (onOpenScan f s).arbLast = s.arbLast := by
  simp [onOpenScan]

@[simp] theorem onOpenScan_car (f : ScanRecord → ScanRecord) (s : State) : (onOpenScan f s).car = s.car := by
  simp [onOpenScan]

@[simp] theorem onOpenScan_notices (f : ScanRecord → ScanRecord) (s : State) : (onOpenScan f s).notices = s.notices := by
  simp [onOpenScan]

@[simp] theorem onOpenScan_ord (f : ScanRecord → ScanRecord) (s : State) : (onOpenScan f s).ord = s.ord := by
  simp [onOpenScan]

@[simp] theorem onOpenScan_sheet (f : ScanRecord → ScanRecord) (s : State) : (onOpenScan f s).sheet = s.sheet := by
  simp [onOpenScan]

@[simp] theorem onOpenScan_std (f : ScanRecord → ScanRecord) (s : State) : (onOpenScan f s).std = s.std := by
  simp [onOpenScan]

@[simp] theorem closeOpenBin_surround (s : State) : (closeOpenBin s).surround = s.surround := by
  simp only [closeOpenBin]; split <;> simp

@[simp] theorem closeOpenBin_alarm (s : State) : (closeOpenBin s).alarm = s.alarm := by
  simp only [closeOpenBin]; split <;> simp

@[simp] theorem closeOpenBin_arbLast (s : State) : (closeOpenBin s).arbLast = s.arbLast := by
  simp only [closeOpenBin]; split <;> simp

@[simp] theorem closeOpenBin_car (s : State) : (closeOpenBin s).car = s.car := by
  simp only [closeOpenBin]; split <;> simp

@[simp] theorem closeOpenBin_notices (s : State) : (closeOpenBin s).notices = s.notices := by
  simp only [closeOpenBin]; split <;> simp

@[simp] theorem closeOpenBin_ord (s : State) : (closeOpenBin s).ord = s.ord := by
  simp only [closeOpenBin]; split <;> simp

@[simp] theorem closeOpenBin_sheet (s : State) : (closeOpenBin s).sheet = s.sheet := by
  simp only [closeOpenBin]; split <;> simp

@[simp] theorem closeOpenBin_std (s : State) : (closeOpenBin s).std = s.std := by
  simp only [closeOpenBin]; split <;> simp

@[simp] theorem moveToBin_surround (sc : ScanRecord) (b : Nat) (s : State) : (moveToBin sc b s).surround = s.surround := by
  simp [moveToBin]

@[simp] theorem moveToBin_alarm (sc : ScanRecord) (b : Nat) (s : State) : (moveToBin sc b s).alarm = s.alarm := by
  simp [moveToBin]

@[simp] theorem moveToBin_arbLast (sc : ScanRecord) (b : Nat) (s : State) : (moveToBin sc b s).arbLast = s.arbLast := by
  simp [moveToBin]

@[simp] theorem moveToBin_car (sc : ScanRecord) (b : Nat) (s : State) : (moveToBin sc b s).car = s.car := by
  simp [moveToBin]

@[simp] theorem moveToBin_notices (sc : ScanRecord) (b : Nat) (s : State) : (moveToBin sc b s).notices = s.notices := by
  simp [moveToBin]

@[simp] theorem moveToBin_ord (sc : ScanRecord) (b : Nat) (s : State) : (moveToBin sc b s).ord = s.ord := by
  simp [moveToBin]

@[simp] theorem moveToBin_sheet (sc : ScanRecord) (b : Nat) (s : State) : (moveToBin sc b s).sheet = s.sheet := by
  simp [moveToBin]

@[simp] theorem moveToBin_std (sc : ScanRecord) (b : Nat) (s : State) : (moveToBin sc b s).std = s.std := by
  simp [moveToBin]

@[simp] theorem addToBin_surround (b : Nat) (v : Per3 (Option Nat)) (s : State) : (addToBin b v s).surround = s.surround := by
  simp [addToBin]

@[simp] theorem addToBin_alarm (b : Nat) (v : Per3 (Option Nat)) (s : State) : (addToBin b v s).alarm = s.alarm := by
  simp [addToBin]

@[simp] theorem addToBin_arbLast (b : Nat) (v : Per3 (Option Nat)) (s : State) : (addToBin b v s).arbLast = s.arbLast := by
  simp [addToBin]

@[simp] theorem addToBin_car (b : Nat) (v : Per3 (Option Nat)) (s : State) : (addToBin b v s).car = s.car := by
  simp [addToBin]

@[simp] theorem addToBin_notices (b : Nat) (v : Per3 (Option Nat)) (s : State) : (addToBin b v s).notices = s.notices := by
  simp [addToBin]

@[simp] theorem addToBin_ord (b : Nat) (v : Per3 (Option Nat)) (s : State) : (addToBin b v s).ord = s.ord := by
  simp [addToBin]

@[simp] theorem addToBin_prof (b : Nat) (v : Per3 (Option Nat)) (s : State) : (addToBin b v s).prof = s.prof := by
  simp [addToBin]

@[simp] theorem addToBin_sheet (b : Nat) (v : Per3 (Option Nat)) (s : State) : (addToBin b v s).sheet = s.sheet := by
  simp [addToBin]

@[simp] theorem addToBin_std (b : Nat) (v : Per3 (Option Nat)) (s : State) : (addToBin b v s).std = s.std := by
  simp [addToBin]

@[simp] theorem markLoss_surround (loss : Bool) (s : State) : (markLoss loss s).surround = s.surround := by
  simp only [markLoss]; split <;> simp

@[simp] theorem markLoss_alarm (loss : Bool) (s : State) : (markLoss loss s).alarm = s.alarm := by
  simp only [markLoss]; split <;> simp

@[simp] theorem markLoss_arbLast (loss : Bool) (s : State) : (markLoss loss s).arbLast = s.arbLast := by
  simp only [markLoss]; split <;> simp

@[simp] theorem markLoss_car (loss : Bool) (s : State) : (markLoss loss s).car = s.car := by
  simp only [markLoss]; split <;> simp

@[simp] theorem markLoss_notices (loss : Bool) (s : State) : (markLoss loss s).notices = s.notices := by
  simp only [markLoss]; split <;> simp

@[simp] theorem markLoss_ord (loss : Bool) (s : State) : (markLoss loss s).ord = s.ord := by
  simp only [markLoss]; split <;> simp

@[simp] theorem markLoss_sheet (loss : Bool) (s : State) : (markLoss loss s).sheet = s.sheet := by
  simp only [markLoss]; split <;> simp

@[simp] theorem markLoss_std (loss : Bool) (s : State) : (markLoss loss s).std = s.std := by
  simp only [markLoss]; split <;> simp

@[simp] theorem binRecord_surround (r : SampleRecord) (s : State) : (binRecord r s).surround = s.surround := by
  simp only [binRecord]; (repeat' split) <;> simp

@[simp] theorem binRecord_alarm (r : SampleRecord) (s : State) : (binRecord r s).alarm = s.alarm := by
  simp only [binRecord]; (repeat' split) <;> simp

@[simp] theorem binRecord_arbLast (r : SampleRecord) (s : State) : (binRecord r s).arbLast = s.arbLast := by
  simp only [binRecord]; (repeat' split) <;> simp

@[simp] theorem binRecord_car (r : SampleRecord) (s : State) : (binRecord r s).car = s.car := by
  simp only [binRecord]; (repeat' split) <;> simp

@[simp] theorem binRecord_notices (r : SampleRecord) (s : State) : (binRecord r s).notices = s.notices := by
  simp only [binRecord]; (repeat' split) <;> simp

@[simp] theorem binRecord_ord (r : SampleRecord) (s : State) : (binRecord r s).ord = s.ord := by
  simp only [binRecord]; (repeat' split) <;> simp

@[simp] theorem binRecord_sheet (r : SampleRecord) (s : State) : (binRecord r s).sheet = s.sheet := by
  simp only [binRecord]; (repeat' split) <;> simp

@[simp] theorem binRecord_std (r : SampleRecord) (s : State) : (binRecord r s).std = s.std := by
  simp only [binRecord]; (repeat' split) <;> simp

@[simp] theorem breakEffects_surround (src : BreakSource) (s : State) : (breakEffects src s).surround = s.surround := by
  simp [breakEffects]

@[simp] theorem breakEffects_arbLast (src : BreakSource) (s : State) : (breakEffects src s).arbLast = s.arbLast := by
  simp [breakEffects]

@[simp] theorem breakEffects_car (src : BreakSource) (s : State) : (breakEffects src s).car = s.car := by
  simp [breakEffects]

@[simp] theorem breakEffects_eng (src : BreakSource) (s : State) : (breakEffects src s).eng = s.eng := by
  simp [breakEffects]

@[simp] theorem breakEffects_ord (src : BreakSource) (s : State) : (breakEffects src s).ord = s.ord := by
  simp [breakEffects]

@[simp] theorem breakEffects_prof (src : BreakSource) (s : State) : (breakEffects src s).prof = s.prof := by
  simp [breakEffects]

@[simp] theorem breakEffects_std (src : BreakSource) (s : State) : (breakEffects src s).std = s.std := by
  simp [breakEffects]

@[simp] theorem takeBreakQuiet_surround (src : BreakSource) (s : State) : (takeBreakQuiet src s).surround = s.surround := by
  simp only [takeBreakQuiet]; split <;> simp

@[simp] theorem takeBreakQuiet_arbLast (src : BreakSource) (s : State) : (takeBreakQuiet src s).arbLast = s.arbLast := by
  simp only [takeBreakQuiet]; split <;> simp

@[simp] theorem takeBreakQuiet_car (src : BreakSource) (s : State) : (takeBreakQuiet src s).car = s.car := by
  simp only [takeBreakQuiet]; split <;> simp

@[simp] theorem takeBreakQuiet_eng (src : BreakSource) (s : State) : (takeBreakQuiet src s).eng = s.eng := by
  simp only [takeBreakQuiet]; split <;> simp

@[simp] theorem takeBreakQuiet_ord (src : BreakSource) (s : State) : (takeBreakQuiet src s).ord = s.ord := by
  simp only [takeBreakQuiet]; split <;> simp

@[simp] theorem takeBreakQuiet_prof (src : BreakSource) (s : State) : (takeBreakQuiet src s).prof = s.prof := by
  simp only [takeBreakQuiet]; split <;> simp

@[simp] theorem takeBreakQuiet_std (src : BreakSource) (s : State) : (takeBreakQuiet src s).std = s.std := by
  simp only [takeBreakQuiet]; split <;> simp

@[simp] theorem takeSampleQuiet_surround (s : State) : (takeSampleQuiet s).surround = s.surround := by
  simp only [takeSampleQuiet]; split <;> simp

@[simp] theorem takeSampleQuiet_car (s : State) : (takeSampleQuiet s).car = s.car := by
  simp only [takeSampleQuiet]; split <;> simp

@[simp] theorem takeSampleQuiet_eng (s : State) : (takeSampleQuiet s).eng = s.eng := by
  simp only [takeSampleQuiet]; split <;> simp

@[simp] theorem takeSampleQuiet_ord (s : State) : (takeSampleQuiet s).ord = s.ord := by
  simp only [takeSampleQuiet]; split <;> simp

@[simp] theorem takeSampleQuiet_prof (s : State) : (takeSampleQuiet s).prof = s.prof := by
  simp only [takeSampleQuiet]; split <;> simp

@[simp] theorem takeSampleQuiet_std (s : State) : (takeSampleQuiet s).std = s.std := by
  simp only [takeSampleQuiet]; split <;> simp

@[simp] theorem takeExternalQuiet_surround (s : State) : (takeExternalQuiet s).surround = s.surround := by
  simp only [takeExternalQuiet]; split <;> simp

@[simp] theorem takeExternalQuiet_car (s : State) : (takeExternalQuiet s).car = s.car := by
  simp only [takeExternalQuiet]; split <;> simp

@[simp] theorem takeExternalQuiet_eng (s : State) : (takeExternalQuiet s).eng = s.eng := by
  simp only [takeExternalQuiet]; split <;> simp

@[simp] theorem takeExternalQuiet_ord (s : State) : (takeExternalQuiet s).ord = s.ord := by
  simp only [takeExternalQuiet]; split <;> simp

@[simp] theorem takeExternalQuiet_prof (s : State) : (takeExternalQuiet s).prof = s.prof := by
  simp only [takeExternalQuiet]; split <;> simp

@[simp] theorem takeExternalQuiet_std (s : State) : (takeExternalQuiet s).std = s.std := by
  simp only [takeExternalQuiet]; split <;> simp

@[simp] theorem takeDueBreaks_surround (s : State) : (takeDueBreaks s).surround = s.surround := by
  simp [takeDueBreaks]

@[simp] theorem takeDueBreaks_car (s : State) : (takeDueBreaks s).car = s.car := by
  simp [takeDueBreaks]

@[simp] theorem takeDueBreaks_eng (s : State) : (takeDueBreaks s).eng = s.eng := by
  simp [takeDueBreaks]

@[simp] theorem takeDueBreaks_ord (s : State) : (takeDueBreaks s).ord = s.ord := by
  simp [takeDueBreaks]

@[simp] theorem takeDueBreaks_prof (s : State) : (takeDueBreaks s).prof = s.prof := by
  simp [takeDueBreaks]

@[simp] theorem takeDueBreaks_std (s : State) : (takeDueBreaks s).std = s.std := by
  simp [takeDueBreaks]

@[simp] theorem sheetOnEffects_surround (s : State) : (sheetOnEffects s).surround = s.surround := by
  simp [sheetOnEffects]

@[simp] theorem sheetOnEffects_arbLast (s : State) : (sheetOnEffects s).arbLast = s.arbLast := by
  simp [sheetOnEffects]

@[simp] theorem sheetOnEffects_car (s : State) : (sheetOnEffects s).car = s.car := by
  simp [sheetOnEffects]

@[simp] theorem sheetOnEffects_eng (s : State) : (sheetOnEffects s).eng = s.eng := by
  simp [sheetOnEffects]

@[simp] theorem sheetOnEffects_ord (s : State) : (sheetOnEffects s).ord = s.ord := by
  simp [sheetOnEffects]

@[simp] theorem sheetOnEffects_std (s : State) : (sheetOnEffects s).std = s.std := by
  simp [sheetOnEffects]

@[simp] theorem judgeRecord_surround (r : SampleRecord) (s : State) : (judgeRecord r s).surround = s.surround := by
  simp [judgeRecord]

@[simp] theorem judgeRecord_pending (r : SampleRecord) (s : State) : (judgeRecord r s).pending = s.pending :=
  congrArg Surround.pending (judgeRecord_surround r s)

@[simp] theorem judgeRecord_phase (r : SampleRecord) (s : State) : (judgeRecord r s).phase = s.phase :=
  congrArg Surround.phase (judgeRecord_surround r s)

@[simp] theorem judgeRecord_mem (r : SampleRecord) (s : State) : (judgeRecord r s).mem = s.mem :=
  congrArg Surround.mem (judgeRecord_surround r s)

@[simp] theorem judgeRecord_alarm (r : SampleRecord) (s : State) : (judgeRecord r s).alarm = s.alarm := by
  simp [judgeRecord]

@[simp] theorem judgeRecord_arbLast (r : SampleRecord) (s : State) : (judgeRecord r s).arbLast = s.arbLast := by
  simp [judgeRecord]

@[simp] theorem judgeRecord_car (r : SampleRecord) (s : State) : (judgeRecord r s).car = s.car := by
  simp [judgeRecord]

@[simp] theorem judgeRecord_eng (r : SampleRecord) (s : State) : (judgeRecord r s).eng = s.eng := by
  simp [judgeRecord]

@[simp] theorem judgeRecord_notices (r : SampleRecord) (s : State) : (judgeRecord r s).notices = s.notices := by
  simp [judgeRecord]

@[simp] theorem judgeRecord_ord (r : SampleRecord) (s : State) : (judgeRecord r s).ord = s.ord := by
  simp [judgeRecord]

@[simp] theorem judgeRecord_prof (r : SampleRecord) (s : State) : (judgeRecord r s).prof = s.prof := by
  simp [judgeRecord]

@[simp] theorem judgeRecord_std (r : SampleRecord) (s : State) : (judgeRecord r s).std = s.std := by
  simp [judgeRecord]

@[simp] theorem sampleBreakLine_surround (active : Bool) (s : State) : (sampleBreakLine active s).surround = s.surround := by
  simp [sampleBreakLine]

@[simp] theorem sampleBreakLine_alarm (active : Bool) (s : State) : (sampleBreakLine active s).alarm = s.alarm := by
  simp [sampleBreakLine]

@[simp] theorem sampleBreakLine_arbLast (active : Bool) (s : State) : (sampleBreakLine active s).arbLast = s.arbLast := by
  simp [sampleBreakLine]

@[simp] theorem sampleBreakLine_car (active : Bool) (s : State) : (sampleBreakLine active s).car = s.car := by
  simp [sampleBreakLine]

@[simp] theorem sampleBreakLine_eng (active : Bool) (s : State) : (sampleBreakLine active s).eng = s.eng := by
  simp [sampleBreakLine]

@[simp] theorem sampleBreakLine_notices (active : Bool) (s : State) : (sampleBreakLine active s).notices = s.notices := by
  simp [sampleBreakLine]

@[simp] theorem sampleBreakLine_ord (active : Bool) (s : State) : (sampleBreakLine active s).ord = s.ord := by
  simp [sampleBreakLine]

@[simp] theorem sampleBreakLine_prof (active : Bool) (s : State) : (sampleBreakLine active s).prof = s.prof := by
  simp [sampleBreakLine]

@[simp] theorem sampleBreakLine_std (active : Bool) (s : State) : (sampleBreakLine active s).std = s.std := by
  simp [sampleBreakLine]

@[simp] theorem countSheetOn_surround (mean : Option Nat) (s : State) : (countSheetOn mean s).surround = s.surround := by
  simp [countSheetOn]

@[simp] theorem countSheetOn_alarm (mean : Option Nat) (s : State) : (countSheetOn mean s).alarm = s.alarm := by
  simp [countSheetOn]

@[simp] theorem countSheetOn_arbLast (mean : Option Nat) (s : State) : (countSheetOn mean s).arbLast = s.arbLast := by
  simp [countSheetOn]

@[simp] theorem countSheetOn_car (mean : Option Nat) (s : State) : (countSheetOn mean s).car = s.car := by
  simp [countSheetOn]

@[simp] theorem countSheetOn_eng (mean : Option Nat) (s : State) : (countSheetOn mean s).eng = s.eng := by
  simp [countSheetOn]

@[simp] theorem countSheetOn_notices (mean : Option Nat) (s : State) : (countSheetOn mean s).notices = s.notices := by
  simp [countSheetOn]

@[simp] theorem countSheetOn_ord (mean : Option Nat) (s : State) : (countSheetOn mean s).ord = s.ord := by
  simp [countSheetOn]

@[simp] theorem countSheetOn_prof (mean : Option Nat) (s : State) : (countSheetOn mean s).prof = s.prof := by
  simp [countSheetOn]

@[simp] theorem countSheetOn_std (mean : Option Nat) (s : State) : (countSheetOn mean s).std = s.std := by
  simp [countSheetOn]

@[simp] theorem confirmSheet_surround (s : State) : (confirmSheet s).surround = s.surround := by
  simp only [confirmSheet]; split <;> simp

@[simp] theorem confirmSheet_alarm (s : State) : (confirmSheet s).alarm = s.alarm := by
  simp only [confirmSheet]; split <;> simp

@[simp] theorem confirmSheet_arbLast (s : State) : (confirmSheet s).arbLast = s.arbLast := by
  simp only [confirmSheet]; split <;> simp

@[simp] theorem confirmSheet_car (s : State) : (confirmSheet s).car = s.car := by
  simp only [confirmSheet]; split <;> simp

@[simp] theorem confirmSheet_eng (s : State) : (confirmSheet s).eng = s.eng := by
  simp only [confirmSheet]; split <;> simp

@[simp] theorem confirmSheet_ord (s : State) : (confirmSheet s).ord = s.ord := by
  simp only [confirmSheet]; split <;> simp

@[simp] theorem confirmSheet_prof (s : State) : (confirmSheet s).prof = s.prof := by
  simp only [confirmSheet]; split <;> simp

@[simp] theorem confirmSheet_std (s : State) : (confirmSheet s).std = s.std := by
  simp only [confirmSheet]; split <;> simp

@[simp] theorem evaluateSheet_surround (tend drive : Nat) (s : State) : (evaluateSheet tend drive s).surround = s.surround := by
  simp [evaluateSheet]

@[simp] theorem evaluateSheet_arbLast (tend drive : Nat) (s : State) : (evaluateSheet tend drive s).arbLast = s.arbLast := by
  simp [evaluateSheet]

@[simp] theorem evaluateSheet_car (tend drive : Nat) (s : State) : (evaluateSheet tend drive s).car = s.car := by
  simp [evaluateSheet]

@[simp] theorem evaluateSheet_eng (tend drive : Nat) (s : State) : (evaluateSheet tend drive s).eng = s.eng := by
  simp [evaluateSheet]

@[simp] theorem evaluateSheet_ord (tend drive : Nat) (s : State) : (evaluateSheet tend drive s).ord = s.ord := by
  simp [evaluateSheet]

@[simp] theorem evaluateSheet_prof (tend drive : Nat) (s : State) : (evaluateSheet tend drive s).prof = s.prof := by
  simp [evaluateSheet]

@[simp] theorem evaluateSheet_std (tend drive : Nat) (s : State) : (evaluateSheet tend drive s).std = s.std := by
  simp [evaluateSheet]

@[simp] theorem openScan_surround (f : FrameRecord) (dir : Direction) (s : State) : (openScan f dir s).surround = s.surround := by
  simp [openScan]

@[simp] theorem openScan_alarm (f : FrameRecord) (dir : Direction) (s : State) : (openScan f dir s).alarm = s.alarm := by
  simp [openScan]

@[simp] theorem openScan_arbLast (f : FrameRecord) (dir : Direction) (s : State) : (openScan f dir s).arbLast = s.arbLast := by
  simp [openScan]

@[simp] theorem openScan_car (f : FrameRecord) (dir : Direction) (s : State) : (openScan f dir s).car = s.car := by
  simp [openScan]

@[simp] theorem openScan_notices (f : FrameRecord) (dir : Direction) (s : State) : (openScan f dir s).notices = s.notices := by
  simp [openScan]

@[simp] theorem openScan_ord (f : FrameRecord) (dir : Direction) (s : State) : (openScan f dir s).ord = s.ord := by
  simp [openScan]

@[simp] theorem openScan_sheet (f : FrameRecord) (dir : Direction) (s : State) : (openScan f dir s).sheet = s.sheet := by
  simp [openScan]

@[simp] theorem openScan_std (f : FrameRecord) (dir : Direction) (s : State) : (openScan f dir s).std = s.std := by
  simp [openScan]

@[simp] theorem filterUpdate_surround (c : ClosedScan) (s : State) : (filterUpdate c s).surround = s.surround := by
  simp [filterUpdate]

@[simp] theorem filterUpdate_alarm (c : ClosedScan) (s : State) : (filterUpdate c s).alarm = s.alarm := by
  simp [filterUpdate]

@[simp] theorem filterUpdate_arbLast (c : ClosedScan) (s : State) : (filterUpdate c s).arbLast = s.arbLast := by
  simp [filterUpdate]

@[simp] theorem filterUpdate_car (c : ClosedScan) (s : State) : (filterUpdate c s).car = s.car := by
  simp [filterUpdate]

@[simp] theorem filterUpdate_eng (c : ClosedScan) (s : State) : (filterUpdate c s).eng = s.eng := by
  simp [filterUpdate]

@[simp] theorem filterUpdate_notices (c : ClosedScan) (s : State) : (filterUpdate c s).notices = s.notices := by
  simp [filterUpdate]

@[simp] theorem filterUpdate_ord (c : ClosedScan) (s : State) : (filterUpdate c s).ord = s.ord := by
  simp [filterUpdate]

@[simp] theorem filterUpdate_sheet (c : ClosedScan) (s : State) : (filterUpdate c s).sheet = s.sheet := by
  simp [filterUpdate]

@[simp] theorem filterUpdate_std (c : ClosedScan) (s : State) : (filterUpdate c s).std = s.std := by
  simp [filterUpdate]

@[simp] theorem unpublished_surround (s : State) : (unpublished s).surround = s.surround := by
  simp [unpublished]

@[simp] theorem unpublished_arbLast (s : State) : (unpublished s).arbLast = s.arbLast := by
  simp [unpublished]

@[simp] theorem unpublished_car (s : State) : (unpublished s).car = s.car := by
  simp [unpublished]

@[simp] theorem unpublished_eng (s : State) : (unpublished s).eng = s.eng := by
  simp [unpublished]

@[simp] theorem unpublished_ord (s : State) : (unpublished s).ord = s.ord := by
  simp [unpublished]

@[simp] theorem unpublished_prof (s : State) : (unpublished s).prof = s.prof := by
  simp [unpublished]

@[simp] theorem unpublished_sheet (s : State) : (unpublished s).sheet = s.sheet := by
  simp [unpublished]

@[simp] theorem unpublished_std (s : State) : (unpublished s).std = s.std := by
  simp [unpublished]

@[simp] theorem startPublication_surround (c : ClosedScan) (s : State) : (startPublication c s).surround = s.surround := by
  simp only [startPublication]; (repeat' split) <;> simp

@[simp] theorem startPublication_car (c : ClosedScan) (s : State) : (startPublication c s).car = s.car := by
  simp only [startPublication]; (repeat' split) <;> simp

@[simp] theorem startPublication_eng (c : ClosedScan) (s : State) : (startPublication c s).eng = s.eng := by
  simp only [startPublication]; (repeat' split) <;> simp

@[simp] theorem startPublication_ord (c : ClosedScan) (s : State) : (startPublication c s).ord = s.ord := by
  simp only [startPublication]; (repeat' split) <;> simp

@[simp] theorem startPublication_sheet (c : ClosedScan) (s : State) : (startPublication c s).sheet = s.sheet := by
  simp only [startPublication]; (repeat' split) <;> simp

@[simp] theorem startPublication_std (c : ClosedScan) (s : State) : (startPublication c s).std = s.std := by
  simp only [startPublication]; (repeat' split) <;> simp

@[simp] theorem closeRest_surround (completion : Completion) (sc : ScanRecord) (s : State) : (closeRest completion sc s).surround = s.surround := by
  simp only [closeRest]; split <;> simp

@[simp] theorem closeRest_alarm (completion : Completion) (sc : ScanRecord) (s : State) : (closeRest completion sc s).alarm = s.alarm := by
  simp only [closeRest]; split <;> simp

@[simp] theorem closeRest_arbLast (completion : Completion) (sc : ScanRecord) (s : State) : (closeRest completion sc s).arbLast = s.arbLast := by
  simp only [closeRest]; split <;> simp

@[simp] theorem closeRest_car (completion : Completion) (sc : ScanRecord) (s : State) : (closeRest completion sc s).car = s.car := by
  simp only [closeRest]; split <;> simp

@[simp] theorem closeRest_notices (completion : Completion) (sc : ScanRecord) (s : State) : (closeRest completion sc s).notices = s.notices := by
  simp only [closeRest]; split <;> simp

@[simp] theorem closeRest_ord (completion : Completion) (sc : ScanRecord) (s : State) : (closeRest completion sc s).ord = s.ord := by
  simp only [closeRest]; split <;> simp

@[simp] theorem closeRest_prof (completion : Completion) (sc : ScanRecord) (s : State) : (closeRest completion sc s).prof = s.prof := by
  simp only [closeRest]; split <;> simp

@[simp] theorem closeRest_sheet (completion : Completion) (sc : ScanRecord) (s : State) : (closeRest completion sc s).sheet = s.sheet := by
  simp only [closeRest]; split <;> simp

@[simp] theorem closeRest_std (completion : Completion) (sc : ScanRecord) (s : State) : (closeRest completion sc s).std = s.std := by
  simp only [closeRest]; split <;> simp

@[simp] theorem handOff_surround (c : ClosedScan) (s : State) : (handOff c s).surround = s.surround := by
  simp only [handOff]; (repeat' split) <;> simp

@[simp] theorem handOff_car (c : ClosedScan) (s : State) : (handOff c s).car = s.car := by
  simp only [handOff]; (repeat' split) <;> simp

@[simp] theorem handOff_eng (c : ClosedScan) (s : State) : (handOff c s).eng = s.eng := by
  simp only [handOff]; (repeat' split) <;> simp

@[simp] theorem handOff_ord (c : ClosedScan) (s : State) : (handOff c s).ord = s.ord := by
  simp only [handOff]; (repeat' split) <;> simp

@[simp] theorem handOff_std (c : ClosedScan) (s : State) : (handOff c s).std = s.std := by
  simp only [handOff]; (repeat' split) <;> simp

@[simp] theorem closeScan_surround (completion : Completion) (s : State) : (closeScan completion s).surround = s.surround := by
  simp only [closeScan]; split <;> simp

@[simp] theorem closeScan_car (completion : Completion) (s : State) : (closeScan completion s).car = s.car := by
  simp only [closeScan]; split <;> simp

@[simp] theorem answerStd_surround (c : ResultCode) (value : Word) (s : State) : (answerStd c value s).surround = s.surround := by
  simp only [answerStd]; split <;> simp

@[simp] theorem answerStd_alarm (c : ResultCode) (value : Word) (s : State) : (answerStd c value s).alarm = s.alarm := by
  simp only [answerStd]; split <;> simp

@[simp] theorem answerStd_arbLast (c : ResultCode) (value : Word) (s : State) : (answerStd c value s).arbLast = s.arbLast := by
  simp only [answerStd]; split <;> simp

@[simp] theorem answerStd_car (c : ResultCode) (value : Word) (s : State) : (answerStd c value s).car = s.car := by
  simp only [answerStd]; split <;> simp

@[simp] theorem answerStd_eng (c : ResultCode) (value : Word) (s : State) : (answerStd c value s).eng = s.eng := by
  simp only [answerStd]; split <;> simp

@[simp] theorem answerStd_notices (c : ResultCode) (value : Word) (s : State) : (answerStd c value s).notices = s.notices := by
  simp only [answerStd]; split <;> simp

@[simp] theorem answerStd_prof (c : ResultCode) (value : Word) (s : State) : (answerStd c value s).prof = s.prof := by
  simp only [answerStd]; split <;> simp

@[simp] theorem answerStd_sheet (c : ResultCode) (value : Word) (s : State) : (answerStd c value s).sheet = s.sheet := by
  simp only [answerStd]; split <;> simp

@[simp] theorem abandonWaiting_surround (s : State) : (abandonWaiting s).surround = s.surround := by
  simp only [abandonWaiting]; split <;> simp

@[simp] theorem abandonWaiting_alarm (s : State) : (abandonWaiting s).alarm = s.alarm := by
  simp only [abandonWaiting]; split <;> simp

@[simp] theorem abandonWaiting_arbLast (s : State) : (abandonWaiting s).arbLast = s.arbLast := by
  simp only [abandonWaiting]; split <;> simp

@[simp] theorem abandonWaiting_car (s : State) : (abandonWaiting s).car = s.car := by
  simp only [abandonWaiting]; split <;> simp

@[simp] theorem abandonWaiting_eng (s : State) : (abandonWaiting s).eng = s.eng := by
  simp only [abandonWaiting]; split <;> simp

@[simp] theorem abandonWaiting_notices (s : State) : (abandonWaiting s).notices = s.notices := by
  simp only [abandonWaiting]; split <;> simp

@[simp] theorem abandonWaiting_prof (s : State) : (abandonWaiting s).prof = s.prof := by
  simp only [abandonWaiting]; split <;> simp

@[simp] theorem abandonWaiting_sheet (s : State) : (abandonWaiting s).sheet = s.sheet := by
  simp only [abandonWaiting]; split <;> simp

@[simp] theorem beginDwell_surround (s : State) : (beginDwell s).surround = s.surround := by
  simp [beginDwell]

@[simp] theorem beginDwell_alarm (s : State) : (beginDwell s).alarm = s.alarm := by
  simp [beginDwell]

@[simp] theorem beginDwell_arbLast (s : State) : (beginDwell s).arbLast = s.arbLast := by
  simp [beginDwell]

@[simp] theorem beginDwell_car (s : State) : (beginDwell s).car = s.car := by
  simp [beginDwell]

@[simp] theorem beginDwell_eng (s : State) : (beginDwell s).eng = s.eng := by
  simp [beginDwell]

@[simp] theorem beginDwell_notices (s : State) : (beginDwell s).notices = s.notices := by
  simp [beginDwell]

@[simp] theorem beginDwell_ord (s : State) : (beginDwell s).ord = s.ord := by
  simp [beginDwell]

@[simp] theorem beginDwell_prof (s : State) : (beginDwell s).prof = s.prof := by
  simp [beginDwell]

@[simp] theorem beginDwell_sheet (s : State) : (beginDwell s).sheet = s.sheet := by
  simp [beginDwell]

@[simp] theorem abandonDwell_surround (s : State) : (abandonDwell s).surround = s.surround := by
  simp only [abandonDwell]; split <;> simp

@[simp] theorem abandonDwell_alarm (s : State) : (abandonDwell s).alarm = s.alarm := by
  simp only [abandonDwell]; split <;> simp

@[simp] theorem abandonDwell_arbLast (s : State) : (abandonDwell s).arbLast = s.arbLast := by
  simp only [abandonDwell]; split <;> simp

@[simp] theorem abandonDwell_car (s : State) : (abandonDwell s).car = s.car := by
  simp only [abandonDwell]; split <;> simp

@[simp] theorem abandonDwell_eng (s : State) : (abandonDwell s).eng = s.eng := by
  simp only [abandonDwell]; split <;> simp

@[simp] theorem abandonDwell_notices (s : State) : (abandonDwell s).notices = s.notices := by
  simp only [abandonDwell]; split <;> simp

@[simp] theorem abandonDwell_prof (s : State) : (abandonDwell s).prof = s.prof := by
  simp only [abandonDwell]; split <;> simp

@[simp] theorem abandonDwell_sheet (s : State) : (abandonDwell s).sheet = s.sheet := by
  simp only [abandonDwell]; split <;> simp

@[simp] theorem countTraverse_surround (s : State) : (countTraverse s).surround = s.surround := by
  simp [countTraverse]

@[simp] theorem countTraverse_alarm (s : State) : (countTraverse s).alarm = s.alarm := by
  simp [countTraverse]

@[simp] theorem countTraverse_arbLast (s : State) : (countTraverse s).arbLast = s.arbLast := by
  simp [countTraverse]

@[simp] theorem countTraverse_car (s : State) : (countTraverse s).car = s.car := by
  simp [countTraverse]

@[simp] theorem countTraverse_eng (s : State) : (countTraverse s).eng = s.eng := by
  simp [countTraverse]

@[simp] theorem countTraverse_notices (s : State) : (countTraverse s).notices = s.notices := by
  simp [countTraverse]

@[simp] theorem countTraverse_ord (s : State) : (countTraverse s).ord = s.ord := by
  simp [countTraverse]

@[simp] theorem countTraverse_prof (s : State) : (countTraverse s).prof = s.prof := by
  simp [countTraverse]

@[simp] theorem countTraverse_sheet (s : State) : (countTraverse s).sheet = s.sheet := by
  simp [countTraverse]

@[simp] theorem enterFaulted_surround (cause : FaultCause) (s : State) : (enterFaulted cause s).surround = s.surround := by
  simp only [enterFaulted]; (repeat' split) <;> simp

@[simp] theorem enterFaulted_pending (cause : FaultCause) (s : State) : (enterFaulted cause s).pending = s.pending :=
  congrArg Surround.pending (enterFaulted_surround cause s)

@[simp] theorem enterFaulted_phase (cause : FaultCause) (s : State) : (enterFaulted cause s).phase = s.phase :=
  congrArg Surround.phase (enterFaulted_surround cause s)

@[simp] theorem enterFaulted_mem (cause : FaultCause) (s : State) : (enterFaulted cause s).mem = s.mem :=
  congrArg Surround.mem (enterFaulted_surround cause s)

@[simp] theorem startMoveIn_surround (p : Purpose) (target : Nat) (dir : Direction) (s : State) : (startMoveIn p target dir s).surround = s.surround := by
  simp only [startMoveIn]; split <;> simp

@[simp] theorem startMove_surround (p : Purpose) (target : Nat) (s : State) : (startMove p target s).surround = s.surround := by
  simp [startMove]

@[simp] theorem zeroAxis_surround (b : Beam) (s : State) : (zeroAxis b s).surround = s.surround := by
  simp [zeroAxis]

@[simp] theorem zeroAxis_alarm (b : Beam) (s : State) : (zeroAxis b s).alarm = s.alarm := by
  simp [zeroAxis]

@[simp] theorem zeroAxis_arbLast (b : Beam) (s : State) : (zeroAxis b s).arbLast = s.arbLast := by
  simp [zeroAxis]

@[simp] theorem zeroAxis_eng (b : Beam) (s : State) : (zeroAxis b s).eng = s.eng := by
  simp [zeroAxis]

@[simp] theorem zeroAxis_notices (b : Beam) (s : State) : (zeroAxis b s).notices = s.notices := by
  simp [zeroAxis]

@[simp] theorem zeroAxis_ord (b : Beam) (s : State) : (zeroAxis b s).ord = s.ord := by
  simp [zeroAxis]

@[simp] theorem zeroAxis_prof (b : Beam) (s : State) : (zeroAxis b s).prof = s.prof := by
  simp [zeroAxis]

@[simp] theorem zeroAxis_sheet (b : Beam) (s : State) : (zeroAxis b s).sheet = s.sheet := by
  simp [zeroAxis]

@[simp] theorem zeroAxis_std (b : Beam) (s : State) : (zeroAxis b s).std = s.std := by
  simp [zeroAxis]

@[simp] theorem zeroIfHome_surround (b : Beam) (s : State) : (zeroIfHome b s).surround = s.surround := by
  simp only [zeroIfHome]; split <;> simp

@[simp] theorem zeroIfHome_alarm (b : Beam) (s : State) : (zeroIfHome b s).alarm = s.alarm := by
  simp only [zeroIfHome]; split <;> simp

@[simp] theorem zeroIfHome_arbLast (b : Beam) (s : State) : (zeroIfHome b s).arbLast = s.arbLast := by
  simp only [zeroIfHome]; split <;> simp

@[simp] theorem zeroIfHome_eng (b : Beam) (s : State) : (zeroIfHome b s).eng = s.eng := by
  simp only [zeroIfHome]; split <;> simp

@[simp] theorem zeroIfHome_notices (b : Beam) (s : State) : (zeroIfHome b s).notices = s.notices := by
  simp only [zeroIfHome]; split <;> simp

@[simp] theorem zeroIfHome_ord (b : Beam) (s : State) : (zeroIfHome b s).ord = s.ord := by
  simp only [zeroIfHome]; split <;> simp

@[simp] theorem zeroIfHome_prof (b : Beam) (s : State) : (zeroIfHome b s).prof = s.prof := by
  simp only [zeroIfHome]; split <;> simp

@[simp] theorem zeroIfHome_sheet (b : Beam) (s : State) : (zeroIfHome b s).sheet = s.sheet := by
  simp only [zeroIfHome]; split <;> simp

@[simp] theorem zeroIfHome_std (b : Beam) (s : State) : (zeroIfHome b s).std = s.std := by
  simp only [zeroIfHome]; split <;> simp

@[simp] theorem startSeek_surround (s : State) : (startSeek s).surround = s.surround := by
  simp only [startSeek]; split <;> simp

@[simp] theorem startPark_surround (s : State) : (startPark s).surround = s.surround := by
  simp [startPark]

@[simp] theorem enterParked_surround (side : Side) (s : State) : (enterParked side s).surround = s.surround := by
  simp only [enterParked]; split <;> simp

@[simp] theorem enterParked_alarm (side : Side) (s : State) : (enterParked side s).alarm = s.alarm := by
  simp only [enterParked]; split <;> simp

@[simp] theorem enterParked_arbLast (side : Side) (s : State) : (enterParked side s).arbLast = s.arbLast := by
  simp only [enterParked]; split <;> simp

@[simp] theorem enterParked_eng (side : Side) (s : State) : (enterParked side s).eng = s.eng := by
  simp only [enterParked]; split <;> simp

@[simp] theorem enterParked_prof (side : Side) (s : State) : (enterParked side s).prof = s.prof := by
  simp only [enterParked]; split <;> simp

@[simp] theorem enterParked_sheet (side : Side) (s : State) : (enterParked side s).sheet = s.sheet := by
  simp only [enterParked]; split <;> simp

@[simp] theorem enterHalted_surround (s : State) : (enterHalted s).surround = s.surround := by
  simp [enterHalted]

@[simp] theorem enterHalted_alarm (s : State) : (enterHalted s).alarm = s.alarm := by
  simp [enterHalted]

@[simp] theorem enterHalted_arbLast (s : State) : (enterHalted s).arbLast = s.arbLast := by
  simp [enterHalted]

@[simp] theorem enterHalted_eng (s : State) : (enterHalted s).eng = s.eng := by
  simp [enterHalted]

@[simp] theorem enterHalted_prof (s : State) : (enterHalted s).prof = s.prof := by
  simp [enterHalted]

@[simp] theorem enterHalted_sheet (s : State) : (enterHalted s).sheet = s.sheet := by
  simp [enterHalted]

@[simp] theorem traverseStart_surround (side : Side) (s : State) : (traverseStart side s).surround = s.surround := by
  simp only [traverseStart]; (repeat' split) <;> simp

@[simp] theorem clearPlan_surround (s : State) : (clearPlan s).surround = s.surround := by
  simp [clearPlan]

@[simp] theorem clearPlan_alarm (s : State) : (clearPlan s).alarm = s.alarm := by
  simp [clearPlan]

@[simp] theorem clearPlan_arbLast (s : State) : (clearPlan s).arbLast = s.arbLast := by
  simp [clearPlan]

@[simp] theorem clearPlan_eng (s : State) : (clearPlan s).eng = s.eng := by
  simp [clearPlan]

@[simp] theorem clearPlan_notices (s : State) : (clearPlan s).notices = s.notices := by
  simp [clearPlan]

@[simp] theorem clearPlan_ord (s : State) : (clearPlan s).ord = s.ord := by
  simp [clearPlan]

@[simp] theorem clearPlan_prof (s : State) : (clearPlan s).prof = s.prof := by
  simp [clearPlan]

@[simp] theorem clearPlan_sheet (s : State) : (clearPlan s).sheet = s.sheet := by
  simp [clearPlan]

@[simp] theorem clearPlan_std (s : State) : (clearPlan s).std = s.std := by
  simp [clearPlan]

@[simp] theorem parkDecision_surround (side : Side) (s : State) : (parkDecision side s).surround = s.surround := by
  simp only [parkDecision]; (repeat' split) <;> simp

@[simp] theorem turnaround_surround (side : Side) (s : State) : (turnaround side s).surround = s.surround := by
  simp only [turnaround]; split <;> simp

@[simp] theorem afterMove_surround (p : Purpose) (target : Nat) (s : State) : (afterMove p target s).surround = s.surround := by
  simp only [afterMove]; split <;> simp

theorem settleMoves_surround (n : Nat) (s : State) : (settleMoves n s).surround = s.surround := by
  induction n generalizing s with
  | zero => rfl
  | succ n ih =>
    simp only [settleMoves]
    (repeat' split) <;> simp [ih]

@[simp] theorem settle_surround (s : State) : (settle s).surround = s.surround := settleMoves_surround moveChain s


@[simp] theorem breakRequest_surround (s : State) : (breakRequest s).surround = s.surround := by
  simp only [breakRequest]; (repeat' split) <;> simp

@[simp] theorem takeBreak_surround (src : BreakSource) (s : State) : (takeBreak src s).surround = s.surround := by
  simp only [takeBreak]; (repeat' split) <;> simp

@[simp] theorem reportSheetOn_surround (s : State) : (reportSheetOn s).surround = s.surround := by
  simp only [reportSheetOn]; split <;> simp

@[simp] theorem declareSheetOn_surround (s : State) : (declareSheetOn s).surround = s.surround := by
  simp [declareSheetOn]

@[simp] theorem releaseHolds_surround (s : State) : (releaseHolds s).surround = s.surround := by
  simp [releaseHolds]

@[simp] theorem releaseHolds_alarm (s : State) : (releaseHolds s).alarm = s.alarm := by
  simp [releaseHolds]

@[simp] theorem releaseHolds_arbLast (s : State) : (releaseHolds s).arbLast = s.arbLast := by
  simp [releaseHolds]

@[simp] theorem releaseHolds_eng (s : State) : (releaseHolds s).eng = s.eng := by
  simp [releaseHolds]

@[simp] theorem releaseHolds_notices (s : State) : (releaseHolds s).notices = s.notices := by
  simp [releaseHolds]

@[simp] theorem releaseHolds_ord (s : State) : (releaseHolds s).ord = s.ord := by
  simp [releaseHolds]

@[simp] theorem releaseHolds_prof (s : State) : (releaseHolds s).prof = s.prof := by
  simp [releaseHolds]

@[simp] theorem releaseHolds_sheet (s : State) : (releaseHolds s).sheet = s.sheet := by
  simp [releaseHolds]

@[simp] theorem releaseHolds_std (s : State) : (releaseHolds s).std = s.std := by
  simp [releaseHolds]

@[simp] theorem skewHold_surround (s : State) : (skewHold s).surround = s.surround := by
  simp only [skewHold]; (repeat' split) <;> simp

@[simp] theorem arrive_surround (b : Beam) (s : State) : (arrive b s).surround = s.surround := by
  simp only [arrive]; (repeat' split) <;> simp

@[simp] theorem arrive_alarm (b : Beam) (s : State) : (arrive b s).alarm = s.alarm := by
  simp only [arrive]; (repeat' split) <;> simp

@[simp] theorem arrive_arbLast (b : Beam) (s : State) : (arrive b s).arbLast = s.arbLast := by
  simp only [arrive]; (repeat' split) <;> simp

@[simp] theorem arrive_eng (b : Beam) (s : State) : (arrive b s).eng = s.eng := by
  simp only [arrive]; (repeat' split) <;> simp

@[simp] theorem arrive_notices (b : Beam) (s : State) : (arrive b s).notices = s.notices := by
  simp only [arrive]; (repeat' split) <;> simp

@[simp] theorem arrive_ord (b : Beam) (s : State) : (arrive b s).ord = s.ord := by
  simp only [arrive]; (repeat' split) <;> simp

@[simp] theorem arrive_prof (b : Beam) (s : State) : (arrive b s).prof = s.prof := by
  simp only [arrive]; (repeat' split) <;> simp

@[simp] theorem arrive_sheet (b : Beam) (s : State) : (arrive b s).sheet = s.sheet := by
  simp only [arrive]; (repeat' split) <;> simp

@[simp] theorem arrive_std (b : Beam) (s : State) : (arrive b s).std = s.std := by
  simp only [arrive]; (repeat' split) <;> simp

@[simp] theorem positionEvent_surround (b : Beam) (s : State) : (positionEvent b s).surround = s.surround := by
  simp only [positionEvent]; (repeat' split) <;> simp

@[simp] theorem writeZeros_surround (d : Dwell) (o : Per3 StdOutcome) (s : State) : (writeZeros d o s).surround = s.surround := by
  simp [writeZeros]

@[simp] theorem writeZeros_alarm (d : Dwell) (o : Per3 StdOutcome) (s : State) : (writeZeros d o s).alarm = s.alarm := by
  simp [writeZeros]

@[simp] theorem writeZeros_arbLast (d : Dwell) (o : Per3 StdOutcome) (s : State) : (writeZeros d o s).arbLast = s.arbLast := by
  simp [writeZeros]

@[simp] theorem writeZeros_car (d : Dwell) (o : Per3 StdOutcome) (s : State) : (writeZeros d o s).car = s.car := by
  simp [writeZeros]

@[simp] theorem writeZeros_notices (d : Dwell) (o : Per3 StdOutcome) (s : State) : (writeZeros d o s).notices = s.notices := by
  simp [writeZeros]

@[simp] theorem writeZeros_ord (d : Dwell) (o : Per3 StdOutcome) (s : State) : (writeZeros d o s).ord = s.ord := by
  simp [writeZeros]

@[simp] theorem writeZeros_prof (d : Dwell) (o : Per3 StdOutcome) (s : State) : (writeZeros d o s).prof = s.prof := by
  simp [writeZeros]

@[simp] theorem writeZeros_sheet (d : Dwell) (o : Per3 StdOutcome) (s : State) : (writeZeros d o s).sheet = s.sheet := by
  simp [writeZeros]

@[simp] theorem dwellHandOff_surround (o : Per3 StdOutcome) (s : State) : (dwellHandOff o s).surround = s.surround := by
  simp [dwellHandOff]

@[simp] theorem endDwell_surround (s : State) : (endDwell s).surround = s.surround := by
  simp only [endDwell]; (repeat' split) <;> simp

@[simp] theorem cycleStart_pending (s : State) : (cycleStart s).pending = s.pending := by
  simp only [cycleStart]; split <;> simp

@[simp] theorem cycleStart_phase (s : State) : (cycleStart s).phase = s.phase := by
  simp only [cycleStart]; split <;> simp

@[simp] theorem cycleStart_mem (s : State) : (cycleStart s).mem = s.mem := by
  simp only [cycleStart]; split <;> simp

@[simp] theorem cycleStart_car (s : State) : (cycleStart s).car = s.car := by
  simp only [cycleStart]; split <;> simp

@[simp] theorem tickExport_pending (s : State) : (tickExport s).pending = s.pending := by
  simp only [tickExport]; split <;> simp

@[simp] theorem tickExport_phase (s : State) : (tickExport s).phase = s.phase := by
  simp only [tickExport]; split <;> simp

@[simp] theorem tickExport_mem (s : State) : (tickExport s).mem = s.mem := by
  simp only [tickExport]; split <;> simp

@[simp] theorem tickExport_car (s : State) : (tickExport s).car = s.car := by
  simp only [tickExport]; split <;> simp

@[simp] theorem frameStart_pending (s : State) : (frameStart s).pending = s.pending := by
  simp only [frameStart]; (repeat' split) <;> simp

@[simp] theorem frameStart_phase (s : State) : (frameStart s).phase = s.phase := by
  simp only [frameStart]; (repeat' split) <;> simp

@[simp] theorem frameStart_mem (s : State) : (frameStart s).mem = s.mem := by
  simp only [frameStart]; (repeat' split) <;> simp

@[simp] theorem frameStart_car (s : State) : (frameStart s).car = s.car := by
  simp only [frameStart]; (repeat' split) <;> simp

@[simp] theorem frameEnd_pending (s : State) : (frameEnd s).pending = s.pending := by
  simp only [frameEnd]; (repeat' split) <;> simp

@[simp] theorem frameEnd_phase (s : State) : (frameEnd s).phase = s.phase := by
  simp only [frameEnd]; (repeat' split) <;> simp

@[simp] theorem frameEnd_mem (s : State) : (frameEnd s).mem = s.mem := by
  simp only [frameEnd]; (repeat' split) <;> simp

@[simp] theorem frameEnd_car (s : State) : (frameEnd s).car = s.car := by
  simp only [frameEnd]; (repeat' split) <;> simp

@[simp] theorem softResetExport_pending (s : State) : (softResetExport s).pending = s.pending := by
  simp only [softResetExport]; split <;> simp

@[simp] theorem softResetExport_phase (s : State) : (softResetExport s).phase = s.phase := by
  simp only [softResetExport]; split <;> simp

@[simp] theorem softResetExport_mem (s : State) : (softResetExport s).mem = s.mem := by
  simp only [softResetExport]; split <;> simp

@[simp] theorem softResetExport_car (s : State) : (softResetExport s).car = s.car := by
  simp only [softResetExport]; split <;> simp

@[simp] theorem reportDenial_pending (port : Port) (kind : AccessKind) (addr : Half) (s : State) : (reportDenial port kind addr s).pending = s.pending := by
  simp only [reportDenial]; split <;> simp

@[simp] theorem reportDenial_phase (port : Port) (kind : AccessKind) (addr : Half) (s : State) : (reportDenial port kind addr s).phase = s.phase := by
  simp only [reportDenial]; split <;> simp

@[simp] theorem reportDenial_mem (port : Port) (kind : AccessKind) (addr : Half) (s : State) : (reportDenial port kind addr s).mem = s.mem := by
  simp only [reportDenial]; split <;> simp

@[simp] theorem reportDenial_car (port : Port) (kind : AccessKind) (addr : Half) (s : State) : (reportDenial port kind addr s).car = s.car := by
  simp only [reportDenial]; split <;> simp

@[simp] theorem takeRefresh_pending (s : State) : (takeRefresh s).pending = s.pending := by
  simp [takeRefresh]

@[simp] theorem takeRefresh_phase (s : State) : (takeRefresh s).phase = s.phase := by
  simp [takeRefresh]

@[simp] theorem takeRefresh_mem (s : State) : (takeRefresh s).mem = s.mem := by
  simp [takeRefresh]

@[simp] theorem takeRefresh_car (s : State) : (takeRefresh s).car = s.car := by
  simp [takeRefresh]

@[simp] theorem changeGeometry_surround (n : Nat) (s : State) : (changeGeometry n s).surround = s.surround := by
  simp [changeGeometry]

@[simp] theorem changeGeometry_car (n : Nat) (s : State) : (changeGeometry n s).car = s.car := by
  simp [changeGeometry]

@[simp] theorem invalidatePositions_surround (s : State) : (invalidatePositions s).surround = s.surround := by
  simp only [invalidatePositions]; split <;> simp

@[simp] theorem clearEdges_surround (s : State) : (clearEdges s).surround = s.surround := by
  simp [clearEdges]

@[simp] theorem takeSetFrame_surround (slot : Slot) (r : FrameRecord) (s : State) : (takeSetFrame slot r s).surround = s.surround := by
  simp only [takeSetFrame]; (repeat' split) <;> simp

@[simp] theorem takeSetFrame_pending (slot : Slot) (r : FrameRecord) (s : State) : (takeSetFrame slot r s).pending = s.pending :=
  congrArg Surround.pending (takeSetFrame_surround slot r s)

@[simp] theorem takeSetFrame_phase (slot : Slot) (r : FrameRecord) (s : State) : (takeSetFrame slot r s).phase = s.phase :=
  congrArg Surround.phase (takeSetFrame_surround slot r s)

@[simp] theorem takeSetFrame_mem (slot : Slot) (r : FrameRecord) (s : State) : (takeSetFrame slot r s).mem = s.mem :=
  congrArg Surround.mem (takeSetFrame_surround slot r s)

@[simp] theorem takeHome_surround (slot : Slot) (s : State) : (takeHome slot s).surround = s.surround := by
  simp only [takeHome]; (repeat' split) <;> simp

@[simp] theorem takeHome_pending (slot : Slot) (s : State) : (takeHome slot s).pending = s.pending :=
  congrArg Surround.pending (takeHome_surround slot s)

@[simp] theorem takeHome_phase (slot : Slot) (s : State) : (takeHome slot s).phase = s.phase :=
  congrArg Surround.phase (takeHome_surround slot s)

@[simp] theorem takeHome_mem (slot : Slot) (s : State) : (takeHome slot s).mem = s.mem :=
  congrArg Surround.mem (takeHome_surround slot s)

@[simp] theorem scanFromPark_surround (slot : Slot) (side : Side) (s : State) : (scanFromPark slot side s).surround = s.surround := by
  simp only [scanFromPark]; split <;> simp

@[simp] theorem scanLater_surround (slot : Slot) (s : State) : (scanLater slot s).surround = s.surround := by
  simp [scanLater]

@[simp] theorem scanLater_car (slot : Slot) (s : State) : (scanLater slot s).car = s.car := by
  simp [scanLater]

@[simp] theorem setPlan_surround (repeats : Nat) (s : State) : (setPlan repeats s).surround = s.surround := by
  simp [setPlan]

@[simp] theorem takeScan_surround (slot : Slot) (repeats : Nat) (s : State) : (takeScan slot repeats s).surround = s.surround := by
  simp only [takeScan]; (repeat' split) <;> simp

@[simp] theorem takeScan_pending (slot : Slot) (repeats : Nat) (s : State) : (takeScan slot repeats s).pending = s.pending :=
  congrArg Surround.pending (takeScan_surround slot repeats s)

@[simp] theorem takeScan_phase (slot : Slot) (repeats : Nat) (s : State) : (takeScan slot repeats s).phase = s.phase :=
  congrArg Surround.phase (takeScan_surround slot repeats s)

@[simp] theorem takeScan_mem (slot : Slot) (repeats : Nat) (s : State) : (takeScan slot repeats s).mem = s.mem :=
  congrArg Surround.mem (takeScan_surround slot repeats s)

@[simp] theorem replaceLong_surround (c : ResultCode) (kind : LongKind) (slot : Slot) (s : State) :
    (replaceLong c kind slot s).surround = s.surround := by
  simp only [replaceLong]; split <;> simp

@[simp] theorem takeMoveTo_surround (slot : Slot) (target : Nat) (s : State) : (takeMoveTo slot target s).surround = s.surround := by
  simp only [takeMoveTo]; (repeat' split) <;> simp

@[simp] theorem takeMoveTo_pending (slot : Slot) (target : Nat) (s : State) : (takeMoveTo slot target s).pending = s.pending :=
  congrArg Surround.pending (takeMoveTo_surround slot target s)

@[simp] theorem takeMoveTo_phase (slot : Slot) (target : Nat) (s : State) : (takeMoveTo slot target s).phase = s.phase :=
  congrArg Surround.phase (takeMoveTo_surround slot target s)

@[simp] theorem takeMoveTo_mem (slot : Slot) (target : Nat) (s : State) : (takeMoveTo slot target s).mem = s.mem :=
  congrArg Surround.mem (takeMoveTo_surround slot target s)

@[simp] theorem takePark_surround (slot : Slot) (s : State) : (takePark slot s).surround = s.surround := by
  simp only [takePark]; split <;> simp

@[simp] theorem takePark_pending (slot : Slot) (s : State) : (takePark slot s).pending = s.pending :=
  congrArg Surround.pending (takePark_surround slot s)

@[simp] theorem takePark_phase (slot : Slot) (s : State) : (takePark slot s).phase = s.phase :=
  congrArg Surround.phase (takePark_surround slot s)

@[simp] theorem takePark_mem (slot : Slot) (s : State) : (takePark slot s).mem = s.mem :=
  congrArg Surround.mem (takePark_surround slot s)

@[simp] theorem clearPlans_surround (s : State) : (clearPlans s).surround = s.surround := by
  simp [clearPlans]

@[simp] theorem holdStopNow_surround (slot : Slot) (s : State) : (holdStopNow slot s).surround = s.surround := by
  simp [holdStopNow]

@[simp] theorem supersedeStopEnd_surround (s : State) : (supersedeStopEnd s).surround = s.surround := by
  simp only [supersedeStopEnd]; split <;> simp

@[simp] theorem stopByPark_surround (slot : Slot) (s : State) : (stopByPark slot s).surround = s.surround := by
  simp [stopByPark]

@[simp] theorem stopHoming_surround (slot : Slot) (s : State) : (stopHoming slot s).surround = s.surround := by
  simp [stopHoming]

@[simp] theorem stopNowIn_surround (slot : Slot) (s : State) : (stopNowIn slot s).surround = s.surround := by
  simp only [stopNowIn]; split <;> simp

@[simp] theorem takeStopNow_surround (slot : Slot) (s : State) : (takeStopNow slot s).surround = s.surround := by
  simp only [takeStopNow]; (repeat' split) <;> simp

@[simp] theorem holdStopEnd_surround (slot : Slot) (s : State) : (holdStopEnd slot s).surround = s.surround := by
  simp [holdStopEnd]

@[simp] theorem takeStopEnd_surround (slot : Slot) (s : State) : (takeStopEnd slot s).surround = s.surround := by
  simp only [takeStopEnd]; (repeat' split) <;> simp

@[simp] theorem takeStop_surround (slot : Slot) (mode : Nat) (s : State) : (takeStop slot mode s).surround = s.surround := by
  simp only [takeStop]; split <;> simp

@[simp] theorem takeStop_pending (slot : Slot) (mode : Nat) (s : State) : (takeStop slot mode s).pending = s.pending :=
  congrArg Surround.pending (takeStop_surround slot mode s)

@[simp] theorem takeStop_phase (slot : Slot) (mode : Nat) (s : State) : (takeStop slot mode s).phase = s.phase :=
  congrArg Surround.phase (takeStop_surround slot mode s)

@[simp] theorem takeStop_mem (slot : Slot) (mode : Nat) (s : State) : (takeStop slot mode s).mem = s.mem :=
  congrArg Surround.mem (takeStop_surround slot mode s)

@[simp] theorem takeSetTimebase_pending (slot : Slot) (tickCode sampleCode : Nat) (s : State) : (takeSetTimebase slot tickCode sampleCode s).pending = s.pending := by
  simp only [takeSetTimebase]; split <;> simp

@[simp] theorem takeSetTimebase_phase (slot : Slot) (tickCode sampleCode : Nat) (s : State) : (takeSetTimebase slot tickCode sampleCode s).phase = s.phase := by
  simp only [takeSetTimebase]; split <;> simp

@[simp] theorem takeSetTimebase_mem (slot : Slot) (tickCode sampleCode : Nat) (s : State) : (takeSetTimebase slot tickCode sampleCode s).mem = s.mem := by
  simp only [takeSetTimebase]; split <;> simp

@[simp] theorem takeSetTimebase_car (slot : Slot) (tickCode sampleCode : Nat) (s : State) : (takeSetTimebase slot tickCode sampleCode s).car = s.car := by
  simp only [takeSetTimebase]; split <;> simp

@[simp] theorem takeSetCal_surround (slot : Slot) (channel : Nat) (v : CalValues) (s : State) : (takeSetCal slot channel v s).surround = s.surround := by
  simp only [takeSetCal]; split <;> simp

@[simp] theorem takeSetCal_pending (slot : Slot) (channel : Nat) (v : CalValues) (s : State) : (takeSetCal slot channel v s).pending = s.pending :=
  congrArg Surround.pending (takeSetCal_surround slot channel v s)

@[simp] theorem takeSetCal_phase (slot : Slot) (channel : Nat) (v : CalValues) (s : State) : (takeSetCal slot channel v s).phase = s.phase :=
  congrArg Surround.phase (takeSetCal_surround slot channel v s)

@[simp] theorem takeSetCal_mem (slot : Slot) (channel : Nat) (v : CalValues) (s : State) : (takeSetCal slot channel v s).mem = s.mem :=
  congrArg Surround.mem (takeSetCal_surround slot channel v s)

@[simp] theorem takeSetCal_car (slot : Slot) (channel : Nat) (v : CalValues) (s : State) : (takeSetCal slot channel v s).car = s.car := by
  simp only [takeSetCal]; split <;> simp

@[simp] theorem takeSetProfile_surround (slot : Slot) (v : ProfileSettings) (s : State) : (takeSetProfile slot v s).surround = s.surround := by
  simp only [takeSetProfile]; split <;> simp

@[simp] theorem takeSetProfile_pending (slot : Slot) (v : ProfileSettings) (s : State) : (takeSetProfile slot v s).pending = s.pending :=
  congrArg Surround.pending (takeSetProfile_surround slot v s)

@[simp] theorem takeSetProfile_phase (slot : Slot) (v : ProfileSettings) (s : State) : (takeSetProfile slot v s).phase = s.phase :=
  congrArg Surround.phase (takeSetProfile_surround slot v s)

@[simp] theorem takeSetProfile_mem (slot : Slot) (v : ProfileSettings) (s : State) : (takeSetProfile slot v s).mem = s.mem :=
  congrArg Surround.mem (takeSetProfile_surround slot v s)

@[simp] theorem takeSetProfile_car (slot : Slot) (v : ProfileSettings) (s : State) : (takeSetProfile slot v s).car = s.car := by
  simp only [takeSetProfile]; split <;> simp

@[simp] theorem takeReseed_surround (slot : Slot) (s : State) : (takeReseed slot s).surround = s.surround := by
  simp [takeReseed]

@[simp] theorem takeReseed_pending (slot : Slot) (s : State) : (takeReseed slot s).pending = s.pending :=
  congrArg Surround.pending (takeReseed_surround slot s)

@[simp] theorem takeReseed_phase (slot : Slot) (s : State) : (takeReseed slot s).phase = s.phase :=
  congrArg Surround.phase (takeReseed_surround slot s)

@[simp] theorem takeReseed_mem (slot : Slot) (s : State) : (takeReseed slot s).mem = s.mem :=
  congrArg Surround.mem (takeReseed_surround slot s)

@[simp] theorem takeReseed_car (slot : Slot) (s : State) : (takeReseed slot s).car = s.car := by
  simp [takeReseed]

@[simp] theorem setDue_surround (s : State) : (setDue s).surround = s.surround := by
  simp [setDue]

@[simp] theorem setDue_car (s : State) : (setDue s).car = s.car := by
  simp [setDue]

@[simp] theorem holdStd_surround (slot : Slot) (s : State) : (holdStd slot s).surround = s.surround := by
  simp [holdStd]

@[simp] theorem holdStd_car (slot : Slot) (s : State) : (holdStd slot s).car = s.car := by
  simp [holdStd]

@[simp] theorem standardizeParked_surround (slot : Slot) (side : Side) (s : State) : (standardizeParked slot side s).surround = s.surround := by
  simp [standardizeParked]

@[simp] theorem takeStandardize_surround (slot : Slot) (s : State) : (takeStandardize slot s).surround = s.surround := by
  simp only [takeStandardize]; (repeat' split) <;> simp

@[simp] theorem takeStandardize_pending (slot : Slot) (s : State) : (takeStandardize slot s).pending = s.pending :=
  congrArg Surround.pending (takeStandardize_surround slot s)

@[simp] theorem takeStandardize_phase (slot : Slot) (s : State) : (takeStandardize slot s).phase = s.phase :=
  congrArg Surround.phase (takeStandardize_surround slot s)

@[simp] theorem takeStandardize_mem (slot : Slot) (s : State) : (takeStandardize slot s).mem = s.mem :=
  congrArg Surround.mem (takeStandardize_surround slot s)

@[simp] theorem takeSetStd_surround (slot : Slot) (v : StdSettings) (s : State) : (takeSetStd slot v s).surround = s.surround := by
  simp only [takeSetStd]; split <;> simp

@[simp] theorem takeSetStd_pending (slot : Slot) (v : StdSettings) (s : State) : (takeSetStd slot v s).pending = s.pending :=
  congrArg Surround.pending (takeSetStd_surround slot v s)

@[simp] theorem takeSetStd_phase (slot : Slot) (v : StdSettings) (s : State) : (takeSetStd slot v s).phase = s.phase :=
  congrArg Surround.phase (takeSetStd_surround slot v s)

@[simp] theorem takeSetStd_mem (slot : Slot) (v : StdSettings) (s : State) : (takeSetStd slot v s).mem = s.mem :=
  congrArg Surround.mem (takeSetStd_surround slot v s)

@[simp] theorem takeSetStd_car (slot : Slot) (v : StdSettings) (s : State) : (takeSetStd slot v s).car = s.car := by
  simp only [takeSetStd]; split <;> simp

@[simp] theorem takeSetSheet_surround (slot : Slot) (v : SheetSettings) (s : State) : (takeSetSheet slot v s).surround = s.surround := by
  simp [takeSetSheet]

@[simp] theorem takeSetSheet_pending (slot : Slot) (v : SheetSettings) (s : State) : (takeSetSheet slot v s).pending = s.pending :=
  congrArg Surround.pending (takeSetSheet_surround slot v s)

@[simp] theorem takeSetSheet_phase (slot : Slot) (v : SheetSettings) (s : State) : (takeSetSheet slot v s).phase = s.phase :=
  congrArg Surround.phase (takeSetSheet_surround slot v s)

@[simp] theorem takeSetSheet_mem (slot : Slot) (v : SheetSettings) (s : State) : (takeSetSheet slot v s).mem = s.mem :=
  congrArg Surround.mem (takeSetSheet_surround slot v s)

@[simp] theorem takeSetSheet_car (slot : Slot) (v : SheetSettings) (s : State) : (takeSetSheet slot v s).car = s.car := by
  simp [takeSetSheet]

@[simp] theorem takeResume_surround (slot : Slot) (s : State) : (takeResume slot s).surround = s.surround := by
  simp only [takeResume]; (repeat' split) <;> simp

@[simp] theorem takeResume_pending (slot : Slot) (s : State) : (takeResume slot s).pending = s.pending :=
  congrArg Surround.pending (takeResume_surround slot s)

@[simp] theorem takeResume_phase (slot : Slot) (s : State) : (takeResume slot s).phase = s.phase :=
  congrArg Surround.phase (takeResume_surround slot s)

@[simp] theorem takeResume_mem (slot : Slot) (s : State) : (takeResume slot s).mem = s.mem :=
  congrArg Surround.mem (takeResume_surround slot s)

@[simp] theorem setAlarmOf_surround (slot : Slot) (k : AlarmKind) (c : AlarmCard) (s : State) : (setAlarmOf slot k c s).surround = s.surround := by
  simp [setAlarmOf]

@[simp] theorem setAlarmOf_car (slot : Slot) (k : AlarmKind) (c : AlarmCard) (s : State) : (setAlarmOf slot k c s).car = s.car := by
  simp [setAlarmOf]

@[simp] theorem takeSetAlarm_surround (slot : Slot) (c : AlarmCard) (s : State) : (takeSetAlarm slot c s).surround = s.surround := by
  simp only [takeSetAlarm]; split <;> simp

@[simp] theorem takeSetAlarm_pending (slot : Slot) (c : AlarmCard) (s : State) : (takeSetAlarm slot c s).pending = s.pending :=
  congrArg Surround.pending (takeSetAlarm_surround slot c s)

@[simp] theorem takeSetAlarm_phase (slot : Slot) (c : AlarmCard) (s : State) : (takeSetAlarm slot c s).phase = s.phase :=
  congrArg Surround.phase (takeSetAlarm_surround slot c s)

@[simp] theorem takeSetAlarm_mem (slot : Slot) (c : AlarmCard) (s : State) : (takeSetAlarm slot c s).mem = s.mem :=
  congrArg Surround.mem (takeSetAlarm_surround slot c s)

@[simp] theorem takeSetAlarm_car (slot : Slot) (c : AlarmCard) (s : State) : (takeSetAlarm slot c s).car = s.car := by
  simp only [takeSetAlarm]; split <;> simp

@[simp] theorem takeAckAlarms_surround (slot : Slot) (mask : Nat) (s : State) : (takeAckAlarms slot mask s).surround = s.surround := by
  simp [takeAckAlarms]

@[simp] theorem takeAckAlarms_pending (slot : Slot) (mask : Nat) (s : State) : (takeAckAlarms slot mask s).pending = s.pending :=
  congrArg Surround.pending (takeAckAlarms_surround slot mask s)

@[simp] theorem takeAckAlarms_phase (slot : Slot) (mask : Nat) (s : State) : (takeAckAlarms slot mask s).phase = s.phase :=
  congrArg Surround.phase (takeAckAlarms_surround slot mask s)

@[simp] theorem takeAckAlarms_mem (slot : Slot) (mask : Nat) (s : State) : (takeAckAlarms slot mask s).mem = s.mem :=
  congrArg Surround.mem (takeAckAlarms_surround slot mask s)

@[simp] theorem takeAckAlarms_car (slot : Slot) (mask : Nat) (s : State) : (takeAckAlarms slot mask s).car = s.car := by
  simp [takeAckAlarms]

@[simp] theorem takeSilenceHorn_surround (slot : Slot) (s : State) : (takeSilenceHorn slot s).surround = s.surround := by
  simp [takeSilenceHorn]

@[simp] theorem takeSilenceHorn_pending (slot : Slot) (s : State) : (takeSilenceHorn slot s).pending = s.pending :=
  congrArg Surround.pending (takeSilenceHorn_surround slot s)

@[simp] theorem takeSilenceHorn_phase (slot : Slot) (s : State) : (takeSilenceHorn slot s).phase = s.phase :=
  congrArg Surround.phase (takeSilenceHorn_surround slot s)

@[simp] theorem takeSilenceHorn_mem (slot : Slot) (s : State) : (takeSilenceHorn slot s).mem = s.mem :=
  congrArg Surround.mem (takeSilenceHorn_surround slot s)

@[simp] theorem takeSilenceHorn_car (slot : Slot) (s : State) : (takeSilenceHorn slot s).car = s.car := by
  simp [takeSilenceHorn]

@[simp] theorem takeSetHorn_pending (slot : Slot) (tone : Nat) (s : State) : (takeSetHorn slot tone s).pending = s.pending := by
  simp only [takeSetHorn]; split <;> simp

@[simp] theorem takeSetHorn_phase (slot : Slot) (tone : Nat) (s : State) : (takeSetHorn slot tone s).phase = s.phase := by
  simp only [takeSetHorn]; split <;> simp

@[simp] theorem takeSetHorn_mem (slot : Slot) (tone : Nat) (s : State) : (takeSetHorn slot tone s).mem = s.mem := by
  simp only [takeSetHorn]; split <;> simp

@[simp] theorem takeSetHorn_car (slot : Slot) (tone : Nat) (s : State) : (takeSetHorn slot tone s).car = s.car := by
  simp only [takeSetHorn]; split <;> simp

@[simp] theorem takeSetExport_pending (slot : Slot) (c : ExportCard) (s : State) : (takeSetExport slot c s).pending = s.pending := by
  simp [takeSetExport]

@[simp] theorem takeSetExport_phase (slot : Slot) (c : ExportCard) (s : State) : (takeSetExport slot c s).phase = s.phase := by
  simp [takeSetExport]

@[simp] theorem takeSetExport_mem (slot : Slot) (c : ExportCard) (s : State) : (takeSetExport slot c s).mem = s.mem := by
  simp [takeSetExport]

@[simp] theorem takeSetExport_car (slot : Slot) (c : ExportCard) (s : State) : (takeSetExport slot c s).car = s.car := by
  simp [takeSetExport]

@[simp] theorem takeSetGuard_pending (slot : Slot) (c : GuardCard) (s : State) : (takeSetGuard slot c s).pending = s.pending := by
  simp [takeSetGuard]

@[simp] theorem takeSetGuard_phase (slot : Slot) (c : GuardCard) (s : State) : (takeSetGuard slot c s).phase = s.phase := by
  simp [takeSetGuard]

@[simp] theorem takeSetGuard_mem (slot : Slot) (c : GuardCard) (s : State) : (takeSetGuard slot c s).mem = s.mem := by
  simp [takeSetGuard]

@[simp] theorem takeSetGuard_car (slot : Slot) (c : GuardCard) (s : State) : (takeSetGuard slot c s).car = s.car := by
  simp [takeSetGuard]

@[simp] theorem takeClearGuardFault_pending (slot : Slot) (s : State) : (takeClearGuardFault slot s).pending = s.pending := by
  simp only [takeClearGuardFault]; split <;> simp

@[simp] theorem takeClearGuardFault_phase (slot : Slot) (s : State) : (takeClearGuardFault slot s).phase = s.phase := by
  simp only [takeClearGuardFault]; split <;> simp

@[simp] theorem takeClearGuardFault_mem (slot : Slot) (s : State) : (takeClearGuardFault slot s).mem = s.mem := by
  simp only [takeClearGuardFault]; split <;> simp

@[simp] theorem takeClearGuardFault_car (slot : Slot) (s : State) : (takeClearGuardFault slot s).car = s.car := by
  simp only [takeClearGuardFault]; split <;> simp

@[simp] theorem handOver_pending (slot : Slot) (o : Order) (s : State) : (handOver slot o s).pending = s.pending := by
  simp only [handOver]; split <;> simp

@[simp] theorem handOver_phase (slot : Slot) (o : Order) (s : State) : (handOver slot o s).phase = s.phase := by
  simp only [handOver]; split <;> simp

@[simp] theorem handOver_mem (slot : Slot) (o : Order) (s : State) : (handOver slot o s).mem = s.mem := by
  simp only [handOver]; split <;> simp

@[simp] theorem trimService_surround (s : State) : (trimService s).surround = s.surround := by
  simp only [trimService]; split <;> simp

@[simp] theorem trimService_pending (s : State) : (trimService s).pending = s.pending :=
  congrArg Surround.pending (trimService_surround s)

@[simp] theorem trimService_phase (s : State) : (trimService s).phase = s.phase :=
  congrArg Surround.phase (trimService_surround s)

@[simp] theorem trimService_mem (s : State) : (trimService s).mem = s.mem :=
  congrArg Surround.mem (trimService_surround s)

@[simp] theorem trimService_car (s : State) : (trimService s).car = s.car := by
  simp only [trimService]; split <;> simp

@[simp] theorem leaveFlight_surround (slot : Slot) (s : State) : (leaveFlight slot s).surround = s.surround := by
  simp [leaveFlight]

@[simp] theorem leaveFlight_pending (slot : Slot) (s : State) : (leaveFlight slot s).pending = s.pending :=
  congrArg Surround.pending (leaveFlight_surround slot s)

@[simp] theorem leaveFlight_phase (slot : Slot) (s : State) : (leaveFlight slot s).phase = s.phase :=
  congrArg Surround.phase (leaveFlight_surround slot s)

@[simp] theorem leaveFlight_mem (slot : Slot) (s : State) : (leaveFlight slot s).mem = s.mem :=
  congrArg Surround.mem (leaveFlight_surround slot s)

@[simp] theorem leaveFlight_car (slot : Slot) (s : State) : (leaveFlight slot s).car = s.car := by
  simp [leaveFlight]

@[simp] theorem writeAnswer_pending (a : Answer) (s : State) : (writeAnswer a s).pending = s.pending := by
  simp only [writeAnswer]; (repeat' split) <;> simp

@[simp] theorem writeAnswer_phase (a : Answer) (s : State) : (writeAnswer a s).phase = s.phase := by
  simp only [writeAnswer]; (repeat' split) <;> simp

@[simp] theorem completePublication_pending (p : Publication) (s : State) : (completePublication p s).pending = s.pending := by
  simp [completePublication]

@[simp] theorem completePublication_phase (p : Publication) (s : State) : (completePublication p s).phase = s.phase := by
  simp [completePublication]

@[simp] theorem completePublication_car (p : Publication) (s : State) : (completePublication p s).car = s.car := by
  simp [completePublication]

@[simp] theorem refreshAccess_pending (s : State) : (refreshAccess s).pending = s.pending := by
  simp only [refreshAccess]; (repeat' split) <;> simp

@[simp] theorem refreshAccess_phase (s : State) : (refreshAccess s).phase = s.phase := by
  simp only [refreshAccess]; (repeat' split) <;> simp

@[simp] theorem refreshAccess_car (s : State) : (refreshAccess s).car = s.car := by
  simp only [refreshAccess]; (repeat' split) <;> simp

@[simp] theorem writePage_pending (p : Publication) (s : State) : (writePage p s).pending = s.pending := by
  simp only [writePage]; split <;> simp

@[simp] theorem writePage_phase (p : Publication) (s : State) : (writePage p s).phase = s.phase := by
  simp only [writePage]; split <;> simp

@[simp] theorem writePage_car (p : Publication) (s : State) : (writePage p s).car = s.car := by
  simp only [writePage]; split <;> simp

@[simp] theorem readStateWord_surround (ch : PageChoice) (s : State) : (readStateWord ch s).surround = s.surround := by
  simp only [readStateWord]; (repeat' split) <;> simp

@[simp] theorem readStateWord_pending (ch : PageChoice) (s : State) : (readStateWord ch s).pending = s.pending :=
  congrArg Surround.pending (readStateWord_surround ch s)

@[simp] theorem readStateWord_phase (ch : PageChoice) (s : State) : (readStateWord ch s).phase = s.phase :=
  congrArg Surround.phase (readStateWord_surround ch s)

@[simp] theorem readStateWord_car (ch : PageChoice) (s : State) : (readStateWord ch s).car = s.car := by
  simp only [readStateWord]; (repeat' split) <;> simp

@[simp] theorem readStateWord_mem (ch : PageChoice) (s : State) : (readStateWord ch s).mem = s.mem :=
  congrArg Surround.mem (readStateWord_surround ch s)

@[simp] theorem profileAccess_pending (s : State) : (profileAccess s).pending = s.pending := by
  simp only [profileAccess]; (repeat' split) <;> simp

@[simp] theorem profileAccess_phase (s : State) : (profileAccess s).phase = s.phase := by
  simp only [profileAccess]; (repeat' split) <;> simp

@[simp] theorem profileAccess_car (s : State) : (profileAccess s).car = s.car := by
  simp only [profileAccess]; (repeat' split) <;> simp

@[simp] theorem answerLong_pending (c : ResultCode) (value : Word) (s : State) : (answerLong c value s).pending = s.pending :=
  congrArg Surround.pending (answerLong_surround c value s)

@[simp] theorem answerStd_pending (c : ResultCode) (value : Word) (s : State) : (answerStd c value s).pending = s.pending :=
  congrArg Surround.pending (answerStd_surround c value s)

@[simp] theorem answerLong_phase (c : ResultCode) (value : Word) (s : State) : (answerLong c value s).phase = s.phase :=
  congrArg Surround.phase (answerLong_surround c value s)

@[simp] theorem answerStd_phase (c : ResultCode) (value : Word) (s : State) : (answerStd c value s).phase = s.phase :=
  congrArg Surround.phase (answerStd_surround c value s)

@[simp] theorem answerLong_mem (c : ResultCode) (value : Word) (s : State) : (answerLong c value s).mem = s.mem :=
  congrArg Surround.mem (answerLong_surround c value s)

@[simp] theorem answerStd_mem (c : ResultCode) (value : Word) (s : State) : (answerStd c value s).mem = s.mem :=
  congrArg Surround.mem (answerStd_surround c value s)

@[simp] theorem checkCard_pending (slot : Slot) (code : Nat) (o : Option Order) (s : State) : (checkCard slot code o s).pending = s.pending := by
  simp only [checkCard]; (repeat' split) <;> simp

@[simp] theorem checkCard_phase (slot : Slot) (code : Nat) (o : Option Order) (s : State) : (checkCard slot code o s).phase = s.phase := by
  simp only [checkCard]; (repeat' split) <;> simp

@[simp] theorem checkCard_mem (slot : Slot) (code : Nat) (o : Option Order) (s : State) : (checkCard slot code o s).mem = s.mem := by
  simp only [checkCard]; (repeat' split) <;> simp

@[simp] theorem markTaken_pending (slot : Slot) (code : Nat) (o : Option Order) (s : State) : (markTaken slot code o s).pending = s.pending := by
  simp [markTaken]

@[simp] theorem markTaken_phase (slot : Slot) (code : Nat) (o : Option Order) (s : State) : (markTaken slot code o s).phase = s.phase := by
  simp [markTaken]

@[simp] theorem markTaken_car (slot : Slot) (code : Nat) (o : Option Order) (s : State) : (markTaken slot code o s).car = s.car := by
  simp [markTaken]

@[simp] theorem takeCard_pending (slot : Slot) (code : Nat) (o : Option Order) (s : State) : (takeCard slot code o s).pending = s.pending := by
  simp [takeCard]

@[simp] theorem takeCard_phase (slot : Slot) (code : Nat) (o : Option Order) (s : State) : (takeCard slot code o s).phase = s.phase := by
  simp [takeCard]

@[simp] theorem startService_surround (s : State) : (startService s).surround = s.surround := by
  simp [startService]

@[simp] theorem startService_car (s : State) : (startService s).car = s.car := by
  simp [startService]

@[simp] theorem requestService_surround (s : State) : (requestService s).surround = s.surround := by
  simp only [requestService]; split <;> simp

@[simp] theorem requestService_pending (s : State) : (requestService s).pending = s.pending :=
  congrArg Surround.pending (requestService_surround s)

@[simp] theorem requestService_phase (s : State) : (requestService s).phase = s.phase :=
  congrArg Surround.phase (requestService_surround s)

@[simp] theorem requestService_mem (s : State) : (requestService s).mem = s.mem :=
  congrArg Surround.mem (requestService_surround s)

@[simp] theorem requestService_car (s : State) : (requestService s).car = s.car := by
  simp only [requestService]; split <;> simp

@[simp] theorem startQueued_surround (s : State) : (startQueued s).surround = s.surround := by
  simp only [startQueued]; (repeat' split) <;> simp

@[simp] theorem startQueued_car (s : State) : (startQueued s).car = s.car := by
  simp only [startQueued]; (repeat' split) <;> simp

@[simp] theorem readCard_pending (left : List Slot) (c : CardRead) (s : State) : (readCard left c s).pending = s.pending := by
  simp only [readCard]; split <;> simp

@[simp] theorem readCard_phase (left : List Slot) (c : CardRead) (s : State) : (readCard left c s).phase = s.phase := by
  simp only [readCard]; split <;> simp

@[simp] theorem examineSlot_surround (left : List Slot) (s : State) : (examineSlot left s).surround = s.surround := by
  simp only [examineSlot]; (repeat' split) <;> simp

@[simp] theorem examineSlot_pending (left : List Slot) (s : State) : (examineSlot left s).pending = s.pending :=
  congrArg Surround.pending (examineSlot_surround left s)

@[simp] theorem examineSlot_phase (left : List Slot) (s : State) : (examineSlot left s).phase = s.phase :=
  congrArg Surround.phase (examineSlot_surround left s)

@[simp] theorem examineSlot_mem (left : List Slot) (s : State) : (examineSlot left s).mem = s.mem :=
  congrArg Surround.mem (examineSlot_surround left s)

@[simp] theorem examineSlot_car (left : List Slot) (s : State) : (examineSlot left s).car = s.car := by
  simp only [examineSlot]; (repeat' split) <;> simp

@[simp] theorem orderUnitAccess_pending (s : State) : (orderUnitAccess s).pending = s.pending := by
  simp only [orderUnitAccess]; (repeat' split) <;> simp

@[simp] theorem orderUnitAccess_phase (s : State) : (orderUnitAccess s).phase = s.phase := by
  simp only [orderUnitAccess]; (repeat' split) <;> simp

@[simp] theorem clearAccess_pending (n : WordIdx) (s : State) : (clearAccess n s).pending = s.pending := by
  simp [clearAccess]

@[simp] theorem clearAccess_car (n : WordIdx) (s : State) : (clearAccess n s).car = s.car := by
  simp [clearAccess]

@[simp] theorem returnHalf_pending (h : Half) (s : State) : (returnHalf h s).pending = s.pending := by
  simp [returnHalf]

@[simp] theorem returnHalf_phase (h : Half) (s : State) : (returnHalf h s).phase = s.phase := by
  simp [returnHalf]

@[simp] theorem returnHalf_mem (h : Half) (s : State) : (returnHalf h s).mem = s.mem := by
  simp [returnHalf]

@[simp] theorem returnHalf_car (h : Half) (s : State) : (returnHalf h s).car = s.car := by
  simp [returnHalf]

@[simp] theorem emptyLatch_pending (s : State) : (emptyLatch s).pending = s.pending := by
  simp [emptyLatch]

@[simp] theorem emptyLatch_phase (s : State) : (emptyLatch s).phase = s.phase := by
  simp [emptyLatch]

@[simp] theorem emptyLatch_mem (s : State) : (emptyLatch s).mem = s.mem := by
  simp [emptyLatch]

@[simp] theorem emptyLatch_car (s : State) : (emptyLatch s).car = s.car := by
  simp [emptyLatch]

@[simp] theorem lowHalfWrite_pending (addr data : Half) (s : State) : (lowHalfWrite addr data s).pending = s.pending := by
  simp only [lowHalfWrite]; split <;> simp

@[simp] theorem lowHalfWrite_phase (addr data : Half) (s : State) : (lowHalfWrite addr data s).phase = s.phase := by
  simp only [lowHalfWrite]; split <;> simp

@[simp] theorem lowHalfWrite_mem (addr data : Half) (s : State) : (lowHalfWrite addr data s).mem = s.mem := by
  simp only [lowHalfWrite]; split <;> simp

@[simp] theorem lowHalfWrite_car (addr data : Half) (s : State) : (lowHalfWrite addr data s).car = s.car := by
  simp only [lowHalfWrite]; split <;> simp

@[simp] theorem beginTransfer_pending (k : TransferKind) (s : State) : (beginTransfer k s).pending = s.pending := by
  simp [beginTransfer]

@[simp] theorem beginTransfer_phase (k : TransferKind) (s : State) : (beginTransfer k s).phase = s.phase := by
  simp [beginTransfer]

@[simp] theorem beginTransfer_mem (k : TransferKind) (s : State) : (beginTransfer k s).mem = s.mem := by
  simp [beginTransfer]

@[simp] theorem beginTransfer_car (k : TransferKind) (s : State) : (beginTransfer k s).car = s.car := by
  simp [beginTransfer]

@[simp] theorem shiftByte_pending (t : Transfer) (out : Byte) (s : State) : (shiftByte t out s).pending = s.pending := by
  simp [shiftByte]

@[simp] theorem shiftByte_phase (t : Transfer) (out : Byte) (s : State) : (shiftByte t out s).phase = s.phase := by
  simp [shiftByte]

@[simp] theorem shiftByte_mem (t : Transfer) (out : Byte) (s : State) : (shiftByte t out s).mem = s.mem := by
  simp [shiftByte]

@[simp] theorem shiftByte_car (t : Transfer) (out : Byte) (s : State) : (shiftByte t out s).car = s.car := by
  simp [shiftByte]

@[simp] theorem writeWhole_pending (a : Answer) (s : State) : (writeWhole a s).pending = s.pending := by
  simp [writeWhole]

@[simp] theorem writeWhole_phase (a : Answer) (s : State) : (writeWhole a s).phase = s.phase := by
  simp [writeWhole]

@[simp] theorem writeWhole_car (a : Answer) (s : State) : (writeWhole a s).car = s.car := by
  simp [writeWhole]

@[simp] theorem softResetCarriage_surround (s : State) : (softResetCarriage s).surround = s.surround := by
  simp [softResetCarriage]

@[simp] theorem softResetCarriage_pending (s : State) : (softResetCarriage s).pending = s.pending :=
  congrArg Surround.pending (softResetCarriage_surround s)

@[simp] theorem softResetCarriage_phase (s : State) : (softResetCarriage s).phase = s.phase :=
  congrArg Surround.phase (softResetCarriage_surround s)

@[simp] theorem softResetCarriage_mem (s : State) : (softResetCarriage s).mem = s.mem :=
  congrArg Surround.mem (softResetCarriage_surround s)

@[simp] theorem softResetTime_pending (s : State) : (softResetTime s).pending = s.pending := by
  simp [softResetTime]

@[simp] theorem softResetTime_phase (s : State) : (softResetTime s).phase = s.phase := by
  simp [softResetTime]

@[simp] theorem softResetTime_mem (s : State) : (softResetTime s).mem = s.mem := by
  simp [softResetTime]

@[simp] theorem softResetTime_car (s : State) : (softResetTime s).car = s.car := by
  simp [softResetTime]

@[simp] theorem softResetLinks_pending (s : State) : (softResetLinks s).pending = s.pending := by
  simp [softResetLinks]

@[simp] theorem softResetLinks_phase (s : State) : (softResetLinks s).phase = s.phase := by
  simp [softResetLinks]

@[simp] theorem softResetLinks_mem (s : State) : (softResetLinks s).mem = s.mem := by
  simp [softResetLinks]

@[simp] theorem softResetLinks_car (s : State) : (softResetLinks s).car = s.car := by
  simp [softResetLinks]

@[simp] theorem softResetEngine_surround (s : State) : (softResetEngine s).surround = s.surround := by
  simp [softResetEngine]

@[simp] theorem softResetEngine_pending (s : State) : (softResetEngine s).pending = s.pending :=
  congrArg Surround.pending (softResetEngine_surround s)

@[simp] theorem softResetEngine_phase (s : State) : (softResetEngine s).phase = s.phase :=
  congrArg Surround.phase (softResetEngine_surround s)

@[simp] theorem softResetEngine_mem (s : State) : (softResetEngine s).mem = s.mem :=
  congrArg Surround.mem (softResetEngine_surround s)

@[simp] theorem softResetEngine_car (s : State) : (softResetEngine s).car = s.car := by
  simp [softResetEngine]

@[simp] theorem softResetProfile_surround (s : State) : (softResetProfile s).surround = s.surround := by
  simp [softResetProfile]

@[simp] theorem softResetProfile_pending (s : State) : (softResetProfile s).pending = s.pending :=
  congrArg Surround.pending (softResetProfile_surround s)

@[simp] theorem softResetProfile_phase (s : State) : (softResetProfile s).phase = s.phase :=
  congrArg Surround.phase (softResetProfile_surround s)

@[simp] theorem softResetProfile_mem (s : State) : (softResetProfile s).mem = s.mem :=
  congrArg Surround.mem (softResetProfile_surround s)

@[simp] theorem softResetProfile_car (s : State) : (softResetProfile s).car = s.car := by
  simp [softResetProfile]

@[simp] theorem softResetStd_surround (s : State) : (softResetStd s).surround = s.surround := by
  simp [softResetStd]

@[simp] theorem softResetStd_pending (s : State) : (softResetStd s).pending = s.pending :=
  congrArg Surround.pending (softResetStd_surround s)

@[simp] theorem softResetStd_phase (s : State) : (softResetStd s).phase = s.phase :=
  congrArg Surround.phase (softResetStd_surround s)

@[simp] theorem softResetStd_mem (s : State) : (softResetStd s).mem = s.mem :=
  congrArg Surround.mem (softResetStd_surround s)

@[simp] theorem softResetStd_car (s : State) : (softResetStd s).car = s.car := by
  simp [softResetStd]

@[simp] theorem softResetSheet_surround (s : State) : (softResetSheet s).surround = s.surround := by
  simp [softResetSheet]

@[simp] theorem softResetSheet_pending (s : State) : (softResetSheet s).pending = s.pending :=
  congrArg Surround.pending (softResetSheet_surround s)

@[simp] theorem softResetSheet_phase (s : State) : (softResetSheet s).phase = s.phase :=
  congrArg Surround.phase (softResetSheet_surround s)

@[simp] theorem softResetSheet_mem (s : State) : (softResetSheet s).mem = s.mem :=
  congrArg Surround.mem (softResetSheet_surround s)

@[simp] theorem softResetSheet_car (s : State) : (softResetSheet s).car = s.car := by
  simp [softResetSheet]

@[simp] theorem softResetAlarm_surround (s : State) : (softResetAlarm s).surround = s.surround := by
  simp [softResetAlarm]

@[simp] theorem softResetAlarm_pending (s : State) : (softResetAlarm s).pending = s.pending :=
  congrArg Surround.pending (softResetAlarm_surround s)

@[simp] theorem softResetAlarm_phase (s : State) : (softResetAlarm s).phase = s.phase :=
  congrArg Surround.phase (softResetAlarm_surround s)

@[simp] theorem softResetAlarm_mem (s : State) : (softResetAlarm s).mem = s.mem :=
  congrArg Surround.mem (softResetAlarm_surround s)

@[simp] theorem softResetAlarm_car (s : State) : (softResetAlarm s).car = s.car := by
  simp [softResetAlarm]

@[simp] theorem softResetPortA_pending (s : State) : (softResetPortA s).pending = s.pending := by
  simp [softResetPortA]

@[simp] theorem softResetPortA_phase (s : State) : (softResetPortA s).phase = s.phase := by
  simp [softResetPortA]

@[simp] theorem softResetPortA_mem (s : State) : (softResetPortA s).mem = s.mem := by
  simp [softResetPortA]

@[simp] theorem softResetPortA_car (s : State) : (softResetPortA s).car = s.car := by
  simp [softResetPortA]

@[simp] theorem softResetBlocks_pending (s : State) : (softResetBlocks s).pending = s.pending := by
  simp [softResetBlocks]

@[simp] theorem softResetBlocks_phase (s : State) : (softResetBlocks s).phase = s.phase := by
  simp [softResetBlocks]

@[simp] theorem softResetBlocks_mem (s : State) : (softResetBlocks s).mem = s.mem := by
  simp [softResetBlocks]

@[simp] theorem withMask_pending (value : Half) (s : State) : (withMask value s).pending = s.pending := by
  simp [withMask]

@[simp] theorem withMask_phase (value : Half) (s : State) : (withMask value s).phase = s.phase := by
  simp [withMask]

@[simp] theorem withMask_mem (value : Half) (s : State) : (withMask value s).mem = s.mem := by
  simp [withMask]

@[simp] theorem withMask_car (value : Half) (s : State) : (withMask value s).car = s.car := by
  simp [withMask]

@[simp] theorem countTick_pending (s : State) : (countTick s).pending = s.pending := by
  simp [countTick]

@[simp] theorem countTick_phase (s : State) : (countTick s).phase = s.phase := by
  simp [countTick]

@[simp] theorem countTick_mem (s : State) : (countTick s).mem = s.mem := by
  simp [countTick]

@[simp] theorem readPoint_surround (s : State) : (readPoint s).surround = s.surround := by
  simp [readPoint]

@[simp] theorem readPoint_car (s : State) : (readPoint s).car = s.car := by
  simp [readPoint]

@[simp] theorem sheetTick_surround (brkIn sampleFirst : Bool) (s : State) : (sheetTick brkIn sampleFirst s).surround = s.surround := by
  simp only [sheetTick]; split <;> simp

@[simp] theorem sheetTick_pending (brkIn sampleFirst : Bool) (s : State) : (sheetTick brkIn sampleFirst s).pending = s.pending :=
  congrArg Surround.pending (sheetTick_surround brkIn sampleFirst s)

@[simp] theorem sheetTick_phase (brkIn sampleFirst : Bool) (s : State) : (sheetTick brkIn sampleFirst s).phase = s.phase :=
  congrArg Surround.phase (sheetTick_surround brkIn sampleFirst s)

@[simp] theorem sheetTick_mem (brkIn sampleFirst : Bool) (s : State) : (sheetTick brkIn sampleFirst s).mem = s.mem :=
  congrArg Surround.mem (sheetTick_surround brkIn sampleFirst s)

@[simp] theorem sheetTick_car (brkIn sampleFirst : Bool) (s : State) : (sheetTick brkIn sampleFirst s).car = s.car := by
  simp only [sheetTick]; split <;> simp

@[simp] theorem holdoffTick_surround (s : State) : (holdoffTick s).surround = s.surround := by
  simp [holdoffTick]

@[simp] theorem holdoffTick_pending (s : State) : (holdoffTick s).pending = s.pending :=
  congrArg Surround.pending (holdoffTick_surround s)

@[simp] theorem holdoffTick_phase (s : State) : (holdoffTick s).phase = s.phase :=
  congrArg Surround.phase (holdoffTick_surround s)

@[simp] theorem holdoffTick_mem (s : State) : (holdoffTick s).mem = s.mem :=
  congrArg Surround.mem (holdoffTick_surround s)

@[simp] theorem holdoffTick_car (s : State) : (holdoffTick s).car = s.car := by
  simp [holdoffTick]

@[simp] theorem endHoldoffs_surround (s : State) : (endHoldoffs s).surround = s.surround := by
  simp [endHoldoffs]

@[simp] theorem endHoldoffs_car (s : State) : (endHoldoffs s).car = s.car := by
  simp [endHoldoffs]

@[simp] theorem takeTickEvent_surround (s : State) (e : TickEvent) : (takeTickEvent s e).surround = s.surround := by
  cases e <;> simp only [takeTickEvent, endTimedOut, takeExternalBreak, takeProbeSheetOn] <;> (try split) <;> simp

/-- The events a tick takes early keep the surround. -/
@[simp] theorem takeTickEvents_surround (es : List TickEvent) (s : State) :
    (es.foldl takeTickEvent s).surround = s.surround := by
  induction es generalizing s with
  | nil => rfl
  | cons e es ih => simp [ih]

@[simp] theorem endHoldoffs_pending (s : State) : (endHoldoffs s).pending = s.pending :=
  congrArg Surround.pending (endHoldoffs_surround s)

@[simp] theorem takeTickEvents_pending (es : List TickEvent) (s : State) : (es.foldl takeTickEvent s).pending = s.pending :=
  congrArg Surround.pending (takeTickEvents_surround es s)

@[simp] theorem endHoldoffs_phase (s : State) : (endHoldoffs s).phase = s.phase :=
  congrArg Surround.phase (endHoldoffs_surround s)

@[simp] theorem takeTickEvents_phase (es : List TickEvent) (s : State) : (es.foldl takeTickEvent s).phase = s.phase :=
  congrArg Surround.phase (takeTickEvents_surround es s)

@[simp] theorem endHoldoffs_mem (s : State) : (endHoldoffs s).mem = s.mem :=
  congrArg Surround.mem (endHoldoffs_surround s)

@[simp] theorem takeTickEvents_mem (es : List TickEvent) (s : State) : (es.foldl takeTickEvent s).mem = s.mem :=
  congrArg Surround.mem (takeTickEvents_surround es s)

@[simp] theorem strobe_pending (s : State) : (strobe s).pending = s.pending := by
  simp [strobe]

@[simp] theorem strobe_phase (s : State) : (strobe s).phase = s.phase := by
  simp [strobe]

@[simp] theorem strobe_mem (s : State) : (strobe s).mem = s.mem := by
  simp [strobe]

@[simp] theorem strobe_car (s : State) : (strobe s).car = s.car := by
  simp [strobe]

@[simp] theorem completeTransfer_pending (f : HeadFrame) (s : State) : (completeTransfer f s).pending = s.pending := by
  simp only [completeTransfer]; split <;> simp

@[simp] theorem completeTransfer_phase (f : HeadFrame) (s : State) : (completeTransfer f s).phase = s.phase := by
  simp only [completeTransfer]; split <;> simp

@[simp] theorem completeTransfer_mem (f : HeadFrame) (s : State) : (completeTransfer f s).mem = s.mem := by
  simp only [completeTransfer]; split <;> simp

@[simp] theorem completeTransfer_car (f : HeadFrame) (s : State) : (completeTransfer f s).car = s.car := by
  simp only [completeTransfer]; split <;> simp

@[simp] theorem addToDwell_surround (r : SampleRecord) (s : State) : (addToDwell r s).surround = s.surround := by
  simp [addToDwell]

@[simp] theorem addToDwell_car (r : SampleRecord) (s : State) : (addToDwell r s).car = s.car := by
  simp [addToDwell]

@[simp] theorem addToPoint_surround (r : SampleRecord) (s : State) : (addToPoint r s).surround = s.surround := by
  simp [addToPoint]

@[simp] theorem addToPoint_car (r : SampleRecord) (s : State) : (addToPoint r s).car = s.car := by
  simp [addToPoint]

@[simp] theorem routeRecord_surround (r : SampleRecord) (s : State) : (routeRecord r s).surround = s.surround := by
  simp only [routeRecord]; split <;> simp

@[simp] theorem routeRecord_pending (r : SampleRecord) (s : State) : (routeRecord r s).pending = s.pending :=
  congrArg Surround.pending (routeRecord_surround r s)

@[simp] theorem routeRecord_phase (r : SampleRecord) (s : State) : (routeRecord r s).phase = s.phase :=
  congrArg Surround.phase (routeRecord_surround r s)

@[simp] theorem routeRecord_mem (r : SampleRecord) (s : State) : (routeRecord r s).mem = s.mem :=
  congrArg Surround.mem (routeRecord_surround r s)

@[simp] theorem routeRecord_car (r : SampleRecord) (s : State) : (routeRecord r s).car = s.car := by
  simp only [routeRecord]; split <;> simp

@[simp] theorem formRecord_pending (c : Capture) (s : State) : (formRecord c s).pending = s.pending := by
  simp [formRecord]

@[simp] theorem formRecord_phase (c : Capture) (s : State) : (formRecord c s).phase = s.phase := by
  simp [formRecord]

@[simp] theorem formRecord_mem (c : Capture) (s : State) : (formRecord c s).mem = s.mem := by
  simp [formRecord]

@[simp] theorem formRecord_car (c : Capture) (s : State) : (formRecord c s).car = s.car := by
  simp [formRecord]

@[simp] theorem takeSampleBreak_surround (s : State) : (takeSampleBreak s).surround = s.surround := by
  simp only [takeSampleBreak]; split <;> simp

@[simp] theorem onInput_pending (b : Beam) (f : DriveInputs → DriveInputs) (s : State) : (onInput b f s).pending = s.pending := by
  simp [onInput]

@[simp] theorem onInput_phase (b : Beam) (f : DriveInputs → DriveInputs) (s : State) : (onInput b f s).phase = s.phase := by
  simp [onInput]

@[simp] theorem onInput_mem (b : Beam) (f : DriveInputs → DriveInputs) (s : State) : (onInput b f s).mem = s.mem := by
  simp [onInput]

@[simp] theorem onInput_car (b : Beam) (f : DriveInputs → DriveInputs) (s : State) : (onInput b f s).car = s.car := by
  simp [onInput]

@[simp] theorem encoderEdge_surround (b : Beam) (d : Direction) (s : State) : (encoderEdge b d s).surround = s.surround := by
  simp only [encoderEdge]; split <;> simp

@[simp] theorem zeroSeeking_surround (b : Beam) (s : State) : (zeroSeeking b s).surround = s.surround := by
  simp [zeroSeeking]

@[simp] theorem zeroSeeking_pending (b : Beam) (s : State) : (zeroSeeking b s).pending = s.pending :=
  congrArg Surround.pending (zeroSeeking_surround b s)

@[simp] theorem zeroSeeking_phase (b : Beam) (s : State) : (zeroSeeking b s).phase = s.phase :=
  congrArg Surround.phase (zeroSeeking_surround b s)

@[simp] theorem zeroSeeking_mem (b : Beam) (s : State) : (zeroSeeking b s).mem = s.mem :=
  congrArg Surround.mem (zeroSeeking_surround b s)

end Sys2Proof.Machine
end

