-- ==== Sys2Proof/Laws/Accesses.lean ====
section
/-! SUPPORT. What the accesses of memory keep: the queue, the phase and the canonical form, through the card service, the ring of the
arbiter and both ports. -/

set_option Elab.async false

namespace Sys2Proof.Machine

open Sys2Proof

/-! ## Wrappers -/

/-- A command that acts only while running keeps what its effect keeps. -/
theorem whenRunning_keeps {α : Type} (g : State → α) {f : State → State} (h : ∀ s, g (f s) = g s) (s : State) :
    g (whenRunning s f) = g s := by
  simp only [whenRunning]; split <;> simp [h]

/-- A line event keeps what its effect keeps. -/
theorem whenReleased_keeps {α : Type} (g : State → α) {f : State → State} (h : ∀ s, g (f s) = g s) (s : State) :
    g (whenReleased s f) = g s := by
  simp only [whenReleased]; split <;> simp [h]

/-- A command that acts only while running keeps an invariant its effect keeps. -/
theorem whenRunning_inv {p : State → Prop} {f : State → State} {s : State} (hs : p s) (h : p s → p (f s)) :
    p (whenRunning s f) := by
  simp only [whenRunning]; split <;> simp_all

/-- A line event keeps an invariant its effect keeps. -/
theorem whenReleased_inv {p : State → Prop} {f : State → State} {s : State} (hs : p s) (h : p s → p (f s)) :
    p (whenReleased s f) := by
  simp only [whenReleased]; split <;> simp_all

/-- A port A access keeps an invariant that both its parts keep. -/
theorem portPhase_inv {p : State → Prop} {f g : State → State} {s : State} (hs : p s) (hf : p s → p (f s)) (hg : p s → p (g s)) :
    p (portPhase s f g) := by
  simp only [portPhase]; split <;> simp_all

/-- The memory of a state is canonical. -/
def State.MemOk (s : State) : Prop := s.mem.wf = true

theorem State.MemOk.storeWord {s : State} (h : s.MemOk) (w : WordIdx) (v : Word) : (s.storeWord w v).MemOk :=
  Memory.writeWord_wf w v h

/-- States with equal memories are canonical together. -/
theorem State.MemOk.of_eq {s t : State} (h : s.MemOk) (e : t.mem = s.mem) : t.MemOk := by
  simp only [State.MemOk, e]; exact h

/-! ## Writers -/

theorem State.MemOk.writeAnswer {s : State} (h : s.MemOk) (a : Answer) : (Machine.writeAnswer a s).MemOk := by
  simp only [Machine.writeAnswer]
  (repeat' split)
  · exact State.MemOk.of_eq (h.storeWord (cardWord a.slot 14) (BitVec.ofNat 32 a.code)) (by simp)
  · exact State.MemOk.of_eq (h.storeWord (cardWord a.slot 15) a.value) (by simp)
  · exact State.MemOk.of_eq (h.storeWord (cardWord a.slot 0) a.stateWord) (by simp)

theorem State.MemOk.profileAccess {s : State} (h : s.MemOk) : (Machine.profileAccess s).MemOk := by
  simp only [Machine.profileAccess, writePage]
  (repeat' split)
  · exact State.MemOk.of_eq (h.storeWord _ _) rfl
  · rename_i _ _ p _ _
    exact State.MemOk.of_eq (h.storeWord (pageWordIdx p.page1 0) 1) (by simp [completePublication])
  · exact State.MemOk.of_eq h (by simp)
  · exact h

theorem State.MemOk.refreshAccess {s : State} (h : s.MemOk) : (Machine.refreshAccess s).MemOk := by
  simp only [Machine.refreshAccess]
  (repeat' split)
  · exact h
  · exact State.MemOk.of_eq (h.storeWord _ _) rfl
  · exact State.MemOk.of_eq (h.storeWord _ _) rfl

/-! ## Card service -/

theorem State.MemOk.takeCard {s : State} (h : s.MemOk) (slot : Slot) (code : Nat) (o : Option Order) :
    (Machine.takeCard slot code o s).MemOk := by
  have hm : (markTaken slot code o s).MemOk := State.MemOk.of_eq (h.storeWord (cardWord slot 0) cardTaken) rfl
  exact State.MemOk.of_eq hm (by simp [Machine.takeCard])

theorem State.MemOk.orderUnitAccess {s : State} (h : s.MemOk) : (Machine.orderUnitAccess s).MemOk := by
  simp only [Machine.orderUnitAccess]
  (repeat' split)
  · exact h.writeAnswer _
  · exact h
  · simp only [readCard]
    split
    · exact State.MemOk.of_eq h (by simp)
    · refine State.MemOk.of_eq (State.MemOk.takeCard (State.MemOk.of_eq h ?_) _ _ _) (trimService_mem _)
      simp
  · exact State.MemOk.of_eq h (by simp)

/-! ## Ring -/

theorem State.MemOk.access {s : State} (h : s.MemOk) (r : Requester) : (Machine.access r s).MemOk := by
  cases r
  · exact h
  · exact h
  · exact h.orderUnitAccess
  · exact h.profileAccess
  · exact h.refreshAccess

@[simp] theorem access_pending (r : Requester) (s : State) : (access r s).pending = s.pending := by
  cases r <;> simp [access]

@[simp] theorem access_phase (r : Requester) (s : State) : (access r s).phase = s.phase := by
  cases r <;> simp [access]

theorem State.MemOk.grantTo {s : State} (h : s.MemOk) (r : Requester) : (Machine.grantTo r s).MemOk :=
  State.MemOk.access (State.MemOk.of_eq (t := s.withArbLast r) h rfl) r

@[simp] theorem grantTo_pending (r : Requester) (s : State) : (grantTo r s).pending = s.pending := by simp [grantTo]

@[simp] theorem grantTo_phase (r : Requester) (s : State) : (grantTo r s).phase = s.phase := by simp [grantTo]

theorem State.MemOk.grantNext {s : State} (h : s.MemOk) : (Machine.grantNext s).MemOk := by
  simp only [Machine.grantNext]
  split
  · exact h
  · exact h.grantTo _

@[simp] theorem grantNext_pending (s : State) : (grantNext s).pending = s.pending := by
  simp only [grantNext]; split <;> simp

@[simp] theorem grantNext_phase (s : State) : (grantNext s).phase = s.phase := by
  simp only [grantNext]; split <;> simp

/-- What one grant and the lines after it keep, grants keep however many there are. -/
theorem grantUntil_inv {p : State → Prop} (h : ∀ s, p s → p (driveLines (grantNext s))) (wanted : State → Bool) (n : Nat) (s : State)
    (hs : p s) : p (grantUntil wanted n s) := by
  induction n generalizing s with
  | zero => exact hs
  | succ n ih =>
    simp only [grantUntil]
    split
    · exact hs
    · exact ih _ (h s hs)

theorem State.MemOk.grantUntil {s : State} (h : s.MemOk) (wanted : State → Bool) (n : Nat) :
    (Machine.grantUntil wanted n s).MemOk :=
  grantUntil_inv (p := State.MemOk) (fun _ h => State.MemOk.of_eq h.grantNext rfl) wanted n s h

@[simp] theorem grantUntil_pending (wanted : State → Bool) (n : Nat) (s : State) : (grantUntil wanted n s).pending = s.pending :=
  grantUntil_inv (p := fun t => t.pending = s.pending) (fun _ h => (grantNext_pending _).trans h) wanted n s rfl

@[simp] theorem grantUntil_phase (wanted : State → Bool) (n : Nat) (s : State) : (grantUntil wanted n s).phase = s.phase :=
  grantUntil_inv (p := fun t => t.phase = s.phase) (fun _ h => (grantNext_phase _).trans h) wanted n s rfl

/-- Grants are made only until the state is as wanted. -/
theorem grantUntil_wanted {wanted : State → Bool} {s : State} (h : wanted s = true) (n : Nat) : grantUntil wanted n s = s := by
  cases n <;> simp [grantUntil, h]

theorem State.MemOk.waitTurn {s : State} (h : s.MemOk) (p : Requester) : (Machine.waitTurn p s).MemOk :=
  State.MemOk.of_eq (h.grantUntil (hisTurn p) 4) rfl

@[simp] theorem waitTurn_pending (p : Requester) (s : State) : (waitTurn p s).pending = s.pending := grantUntil_pending _ _ s

@[simp] theorem waitTurn_phase (p : Requester) (s : State) : (waitTurn p s).phase = s.phase := grantUntil_phase _ _ s

/-- With no internal access waiting, the turn comes at once. -/
theorem waitTurn_idle {s : State} (p : Requester) (h : ∀ r, waits s r = false) : waitTurn p s = s.withArbLast p := by
  have ht : hisTurn p s = true := by simp [hisTurn, h]
  simp [waitTurn, grantUntil_wanted ht]

/-! ## Cards taken by an order command -/

@[simp] theorem deliver_pending (slot : Slot) (o : Order) (s : State) : (deliver slot o s).pending = s.pending :=
  whenRunning_keeps State.pending (fun s => by simp only []; split <;> simp) s

@[simp] theorem deliver_phase (slot : Slot) (o : Order) (s : State) : (deliver slot o s).phase = s.phase :=
  whenRunning_keeps State.phase (fun s => by simp only []; split <;> simp) s

theorem State.MemOk.deliver {s : State} (h : s.MemOk) (slot : Slot) (o : Order) : (Machine.deliver slot o s).MemOk := by
  refine whenRunning_inv h fun h => ?_
  have h := h.grantUntil mayTake (takeFuel s)
  simp only []
  split
  · exact h
  · exact State.MemOk.of_eq (h.takeCard slot (orderCode o) (some o)) (by simp)

theorem State.MemOk.clearAccess {s : State} (h : s.MemOk) (n : WordIdx) : (Machine.clearAccess n s).MemOk :=
  State.MemOk.of_eq (h.storeWord n 0) rfl

/-! ## Ports -/

theorem highHalfStore_wf {m : Memory} (h : m.wf = true) (latch : Option (WordIdx × Half)) (w : WordIdx) (data : Half) :
    (highHalfStore latch w data m).wf = true := by
  have := wordAddr_lt w
  simp only [highHalfStore]
  (repeat' split)
  · exact Memory.writeWord_wf _ _ h
  · exact Memory.writeHalf_wf _ h (by omega)
  · exact Memory.writeHalf_wf _ h (by omega)

theorem State.MemOk.highHalfWrite {s : State} (h : s.MemOk) (addr data : Half) : (Machine.highHalfWrite addr data s).MemOk := by
  simp only [Machine.highHalfWrite]
  split
  · exact highHalfStore_wf (h.waitTurn .portA) _ _ _
  · exact State.MemOk.of_eq h (by simp)

theorem State.MemOk.lowHalfRead {s : State} (h : s.MemOk) (addr : Half) : (Machine.lowHalfRead addr s).MemOk := by
  simp only [Machine.lowHalfRead]
  split
  · exact State.MemOk.of_eq (h.waitTurn .portA) rfl
  · exact State.MemOk.of_eq h (by simp)

theorem State.MemOk.highHalfRead {s : State} (h : s.MemOk) (addr : Half) : (Machine.highHalfRead addr s).MemOk := by
  simp only [Machine.highHalfRead]
  (repeat' split)
  · exact State.MemOk.of_eq h rfl
  · exact State.MemOk.of_eq (h.waitTurn .portA) rfl
  · exact State.MemOk.of_eq h (by simp)

@[simp] theorem highHalfWrite_pending (addr data : Half) (s : State) : (highHalfWrite addr data s).pending = s.pending := by
  simp only [highHalfWrite]; split <;> simp

@[simp] theorem lowHalfRead_pending (addr : Half) (s : State) : (lowHalfRead addr s).pending = s.pending := by
  simp only [lowHalfRead]; split <;> simp

@[simp] theorem highHalfRead_pending (addr : Half) (s : State) : (highHalfRead addr s).pending = s.pending := by
  simp only [highHalfRead]; (repeat' split) <;> simp

theorem State.MemOk.fetchWord {s : State} (h : s.MemOk) (addr : Half) : (Machine.fetchWord addr s).1.MemOk := by
  simp only [Machine.fetchWord]
  (repeat' split)
  · exact h.waitTurn .portB
  · exact State.MemOk.of_eq h (by simp)
  · exact h

@[simp] theorem fetchWord_pending (addr : Half) (s : State) : (fetchWord addr s).1.pending = s.pending := by
  simp only [fetchWord]; (repeat' split) <;> simp

theorem State.MemOk.depositWord {s : State} (h : s.MemOk) (addr : Half) (w : Word) : (Machine.depositWord addr w s).MemOk := by
  simp only [Machine.depositWord]
  (repeat' split)
  · exact (h.waitTurn .portB).storeWord _ _
  · exact State.MemOk.of_eq h (by simp)
  · exact h

@[simp] theorem depositWord_pending (addr : Half) (w : Word) (s : State) : (depositWord addr w s).pending = s.pending := by
  simp only [depositWord]; (repeat' split) <;> simp

theorem State.MemOk.transferByte {s : State} (h : s.MemOk) (x : Byte) : (Machine.transferByte s x).MemOk := by
  simp only [Machine.transferByte, readByte, writeByte]
  (repeat' split)
  all_goals first
    | exact h
    | exact State.MemOk.of_eq h rfl
    | exact State.MemOk.of_eq (h.fetchWord _) rfl
    | exact State.MemOk.of_eq (h.depositWord _ _) rfl

@[simp] theorem transferByte_pending (s : State) (x : Byte) : (transferByte s x).pending = s.pending := by
  simp only [transferByte, readByte, writeByte]
  (repeat' split) <;> simp

/-- A port B command keeps what each byte and the beginning of a transfer keep. -/
theorem portBBytes_inv {p : State → Prop} (hb : ∀ s x, p s → p (transferByte s x)) (hc : ∀ s k, p s → p (beginTransfer k s))
    (k : TransferKind) (bytes : List Byte) (s : State) (hs : p s) : p (portBBytes k bytes s) := by
  have fold : ∀ (bs : List Byte) (t : State), p t → p (bs.foldl transferByte t) := by
    intro bs
    induction bs with
    | nil => exact fun t ht => ht
    | cons b bs ih => exact fun t ht => ih _ (hb t b ht)
  simp only [portBBytes]
  (repeat' split)
  all_goals first
    | exact hs
    | exact fold bytes _ hs
    | exact fold bytes _ (hc s k hs)

theorem State.MemOk.portBBytes {s : State} (h : s.MemOk) (k : TransferKind) (bytes : List Byte) :
    (Machine.portBBytes k bytes s).MemOk :=
  portBBytes_inv (p := State.MemOk) (fun _ x h => h.transferByte x) (fun _ _ h => State.MemOk.of_eq h rfl) k bytes s h

@[simp] theorem portBBytes_pending (k : TransferKind) (bytes : List Byte) (s : State) :
    (portBBytes k bytes s).pending = s.pending :=
  portBBytes_inv (p := fun t => t.pending = s.pending) (fun t x h => by simp [h]) (fun t k h => by simpa using h) k bytes s rfl

/-! ## Soft reset -/

theorem State.MemOk.writeWhole {s : State} (h : s.MemOk) (a : Answer) : (Machine.writeWhole a s).MemOk := by
  refine State.MemOk.of_eq (((h.storeWord (cardWord a.slot 14) (BitVec.ofNat 32 a.code)).storeWord (cardWord a.slot 15) a.value).storeWord
    (cardWord a.slot 0) a.stateWord) ?_
  simp [Machine.writeWhole]

/-- Answering a list of cards keeps what answering one keeps. -/
theorem softAnswers_inv {p : State → Prop} (h : ∀ s a, p s → p (writeWhole a s)) (cs : List InFlight) (s : State) (hs : p s) :
    p (cs.foldl softAnswer s) := by
  induction cs generalizing s with
  | nil => exact hs
  | cons c cs ih => exact ih _ (h s _ hs)

theorem State.MemOk.softResetOrders {s : State} (h : s.MemOk) : (Machine.softResetOrders s).MemOk :=
  State.MemOk.of_eq (softAnswers_inv (p := State.MemOk) (fun _ a h => h.writeWhole a) s.ord.inFlight s h) rfl

@[simp] theorem softResetOrders_pending (s : State) : (softResetOrders s).pending = s.pending :=
  softAnswers_inv (p := fun t => t.pending = s.pending) (fun t a h => by simp [h]) s.ord.inFlight s rfl

/-! ## Clock and lines -/

@[simp] theorem doIf_pending (c : Bool) {f : State → State} (h : ∀ s, (f s).pending = s.pending) (s : State) :
    (doIf c f s).pending = s.pending := by
  simp only [doIf]; split <;> simp [h]

@[simp] theorem doIf_mem (c : Bool) {f : State → State} (h : ∀ s, (f s).mem = s.mem) (s : State) :
    (doIf c f s).mem = s.mem := by
  simp only [doIf]; split <;> simp [h]

@[simp] theorem serviceTick_pending (b : Bool) (o : TickOrder) (s : State) : (serviceTick b o s).pending = s.pending := by
  simp [serviceTick, tickBefore, tickAfter]

@[simp] theorem serviceTick_mem (b : Bool) (o : TickOrder) (s : State) : (serviceTick b o s).mem = s.mem := by
  simp [serviceTick, tickBefore, tickAfter]

@[simp] theorem homeLine_pending (b : Beam) (v : Bool) (s : State) : (homeLine b v s).pending = s.pending := by
  simp only [homeLine, whenReleased]
  (repeat' split) <;> first | rfl | exact congrArg Surround.pending (zeroSeeking_surround _ _)

@[simp] theorem homeLine_mem (b : Beam) (v : Bool) (s : State) : (homeLine b v s).mem = s.mem := by
  simp only [homeLine, whenReleased]
  (repeat' split) <;> first | rfl | exact congrArg Surround.mem (zeroSeeking_surround _ _)

@[simp] theorem limitLine_pending (b : Beam) (l : Limit) (v : Bool) (s : State) : (limitLine b l v s).pending = s.pending := by
  simp only [limitLine, whenReleased]
  (repeat' split) <;> first | rfl | exact congrArg Surround.pending (enterFaulted_surround _ _)

@[simp] theorem limitLine_mem (b : Beam) (l : Limit) (v : Bool) (s : State) : (limitLine b l v s).mem = s.mem := by
  simp only [limitLine, whenReleased]
  (repeat' split) <;> first | rfl | exact congrArg Surround.mem (enterFaulted_surround _ _)

@[simp] theorem frameOkLine_pending (v : Bool) (s : State) : (frameOkLine v s).pending = s.pending := by
  simp only [frameOkLine, whenReleased]
  (repeat' split) <;> first | rfl | exact congrArg Surround.pending (enterFaulted_surround _ _)

@[simp] theorem frameOkLine_mem (v : Bool) (s : State) : (frameOkLine v s).mem = s.mem := by
  simp only [frameOkLine, whenReleased]
  (repeat' split) <;> first | rfl | exact congrArg Surround.mem (enterFaulted_surround _ _)

@[simp] theorem drvOkLine_pending (b : Beam) (v : Bool) (s : State) : (drvOkLine b v s).pending = s.pending := by
  simp only [drvOkLine, whenReleased]
  (repeat' split) <;> first | rfl | exact congrArg Surround.pending (enterFaulted_surround _ _)

@[simp] theorem drvOkLine_mem (b : Beam) (v : Bool) (s : State) : (drvOkLine b v s).mem = s.mem := by
  simp only [drvOkLine, whenReleased]
  (repeat' split) <;> first | rfl | exact congrArg Surround.mem (enterFaulted_surround _ _)

end Sys2Proof.Machine
end

