-- ==== Sys2Proof/Laws/Lines.lean ====
section
/-! SUPPORT. The output lines: what `driveLines` leaves as it is, and that lines once driven stand (R5, R161, R162, R168, R199). -/

set_option Elab.async false

namespace Sys2Proof.Machine

open Sys2Proof

section
variable (s : State)
@[simp] theorem driveLines_phase : (driveLines s).phase = s.phase := rfl
@[simp] theorem driveLines_mem : (driveLines s).mem = s.mem := rfl
@[simp] theorem driveLines_notices : (driveLines s).notices = s.notices := rfl
@[simp] theorem driveLines_mask : (driveLines s).mask = s.mask := rfl
@[simp] theorem driveLines_refresh : (driveLines s).refresh = s.refresh := rfl
@[simp] theorem driveLines_arbLast : (driveLines s).arbLast = s.arbLast := rfl
@[simp] theorem driveLines_frameOk : (driveLines s).frameOk = s.frameOk := rfl
@[simp] theorem driveLines_inputs : (driveLines s).inputs = s.inputs := rfl
@[simp] theorem driveLines_car : (driveLines s).car = s.car := rfl
@[simp] theorem driveLines_time : (driveLines s).time = s.time := rfl
@[simp] theorem driveLines_links : (driveLines s).links = s.links := rfl
@[simp] theorem driveLines_eng : (driveLines s).eng = s.eng := rfl
@[simp] theorem driveLines_prof : (driveLines s).prof = s.prof := rfl
@[simp] theorem driveLines_std : (driveLines s).std = s.std := rfl
@[simp] theorem driveLines_sheet : (driveLines s).sheet = s.sheet := rfl
@[simp] theorem driveLines_exp : (driveLines s).exp = s.exp := rfl
@[simp] theorem driveLines_portA : (driveLines s).portA = s.portA := rfl
@[simp] theorem driveLines_portB : (driveLines s).portB = s.portB := rfl
@[simp] theorem driveLines_guard : (driveLines s).guard = s.guard := rfl
@[simp] theorem driveLines_ord : (driveLines s).ord = s.ord := rfl
@[simp] theorem driveLines_pending : (driveLines s).pending = s.pending := rfl
@[simp] theorem driveLines_entries : (driveLines s).alarm.entries = s.alarm.entries := rfl
@[simp] theorem driveLines_entry (k : AlarmKind) : (driveLines s).alarm.entry k = s.alarm.entry k := rfl
@[simp] theorem driveLines_silence : (driveLines s).alarm.silence = s.alarm.silence := rfl
@[simp] theorem driveLines_tone : (driveLines s).alarm.tone = s.alarm.tone := rfl
@[simp] theorem driveLines_flashOn : (driveLines s).alarm.flashOn = s.alarm.flashOn := rfl
@[simp] theorem driveLines_sounding : (driveLines s).alarm.sounding = hornSounds s.alarm := rfl
@[simp] theorem driveLines_attn : (driveLines s).pins.attn = attnLine s := rfl
@[simp] theorem driveLines_xfrm : (driveLines s).pins.xfrm = xfrmLine s := rfl
@[simp] theorem driveLines_lamp : (driveLines s).pins.lamp = lampLine s.alarm := rfl
@[simp] theorem driveLines_horn : (driveLines s).pins.horn = hornLine s := rfl
@[simp] theorem driveLines_run (b : Beam) : (driveLines s).pins.run.get b = runLine s b := by cases b <;> rfl
@[simp] theorem driveLines_creep (b : Beam) : (driveLines s).pins.creep.get b = creepLine s b := by cases b <;> rfl
@[simp] theorem driveLines_dir (b : Beam) : (driveLines s).pins.dir.get b = dirLine s b := by cases b <;> rfl
end

/-- The memory, the ring and the order unit stand apart from the lines. -/
theorem driveLines_withoutCard (s t : State) : withoutCard s (driveLines t) = driveLines (withoutCard s t) := rfl

/-- The alarm unit's lines once the lines are driven are those of the table before. -/
theorem hornSounds_driveLines (s : State) : hornSounds (driveLines s).alarm = hornSounds s.alarm := rfl

theorem dirLine_driveLines (s : State) (b : Beam) : dirLine (driveLines s) b = dirLine s b := by
  simp only [dirLine, driveLines_car]
  cases h : s.car.move <;> simp [dirLine, h]

theorem hornLine_driveLines (s : State) : hornLine (driveLines s) = hornLine s := by
  simp only [hornLine, hornSounds_driveLines, driveLines_sounding, driveLines_horn]
  cases hornSounds s.alarm <;> simp

/-- Lines once driven stand. -/
theorem driveLines_idem (s : State) : driveLines (driveLines s) = driveLines s := by
  have h : ∀ b, dirLine (driveLines s) b = dirLine s b := dirLine_driveLines s
  have e : driveLines (driveLines s) = { driveLines s with
      pins := { (driveLines s).pins with
        dir := ⟨dirLine (driveLines s) .upper, dirLine (driveLines s) .lower⟩, horn := hornLine (driveLines s) } } := rfl
  rw [e, h, h, hornLine_driveLines]
  rfl

/-- Every state a command leaves has its lines driven. -/
theorem settled_driveLines (s : State) : Settled (driveLines s) := driveLines_idem s

/-- An update that the lines do not read leaves settled lines as they stand. -/
theorem Settled.update {s : State} (h : Settled s) (f : State → State) (hf : driveLines (f s) = f (driveLines s)) :
    driveLines (f s) = f s := by rw [hf, h]

/-- The fields of settled lines. -/
theorem Settled.pins {s : State} (h : Settled s) : s.pins = (driveLines s).pins := by rw [h]

theorem Settled.sounding {s : State} (h : Settled s) : s.alarm.sounding = hornSounds s.alarm := by
  conv_lhs => rw [← (show driveLines s = s from h)]
  rfl

end Sys2Proof.Machine
end

