-- ==== Sys2Proof/Laws/Orders.lean ====
section
/-! SUPPORT. What the taking of a card leaves (R208 to R211), said once for every order. -/

set_option Elab.async false

namespace Sys2Proof.Machine

open Sys2Proof

/-- A service is trimmed only once no answer waits: nothing but the service changes. -/
theorem trimService_eq (s : State) : ∃ v, trimService s = { s with ord := { s.ord with service := v } } ∧
    (s.ord.answers ≠ [] → v = s.ord.service) := by
  unfold trimService
  split
  · next h => exact ⟨_, rfl, fun hn => absurd h hn⟩
  · exact ⟨s.ord.service, rfl, fun _ => rfl⟩

/-- It is a requester's turn when none that stands before it on the ring of R193 waits. -/
theorem hisTurn_iff (p : Requester) (s : State) :
    hisTurn p s = true ↔ ∀ r, ringDistance s.arbLast r < ringDistance s.arbLast p → waits s r = false := by
  constructor
  · intro h r
    unfold hisTurn at h
    cases ha : s.arbLast <;> cases p <;> cases r <;> simp_all [ringAfter, ringDistance]
  · intro h
    have hA := h .portA
    have hB := h .portB
    have hO := h .orderUnit
    have hP := h .profileEngine
    have hS := h .statusRefresh
    unfold hisTurn
    cases ha : s.arbLast <;> cases p <;> simp_all [ringAfter, ringDistance]

/-- Where the card may be taken no grant comes before it. -/
theorem CardFree.mayTake {s : State} {slot : Slot} (h : CardFree s slot) : Machine.mayTake s = true := by
  have hr : readingCard s = false := by
    unfold readingCard
    split
    · next left c he => exact absurd he (h.notReading left c)
    · rfl
  simp [Machine.mayTake, h.written, hr, (hisTurn_iff .orderUnit s).2 h.turn]

/-- A command that stands for a card takes it when the slot's card is free. -/
theorem deliver_free {s : State} {slot : Slot} (h : CardFree s slot) (o : Order) :
    deliver slot o s = trimService (takeCard slot (orderCode o) (some o) s) := by
  simp [deliver, whenRunning, h.running, grantUntil_wanted h.mayTake, h.notInFlight]

/-- A card that passes the checks is handed to its owner as it was marked TAKEN. -/
theorem takeCard_passes {slot : Slot} {o : Order} (h : Passes slot o) (s : State) :
    takeCard slot (orderCode o) (some o) s = handOver slot o (markTaken slot (orderCode o) (some o) s) := by
  have h' : cardRefusal slot (orderCode o) (some o) = none := h
  simp [takeCard, checkCard, h']

/-- What an order leaves, from what its owner made of the card marked TAKEN: `e` is the state the owner's effect gives without the
card's own traces. -/
theorem orderLeaves_of {s t e : State} {slot : Slot} {o : Order} {new : List Answer} (arb : Requester) (hs : CardFree s slot)
    (ht : t = driveLines (trimService { e with
      mem := s.mem.writeWord (cardWord slot 0) cardTaken
      arbLast := arb
      ord := { s.ord with
        inFlight := s.ord.inFlight ++ [⟨slot, orderCode o, orderOwner o⟩]
        lastSlot := slot
        answers := s.ord.answers ++ new } }))
    (he : e = { e with mem := s.mem, arbLast := s.arbLast, ord := s.ord }) : OrderLeaves s t slot o new e := by
  obtain ⟨v, hv, hn⟩ := trimService_eq { e with
      mem := s.mem.writeWord (cardWord slot 0) cardTaken
      arbLast := arb
      ord := { s.ord with
        inFlight := s.ord.inFlight ++ [⟨slot, orderCode o, orderOwner o⟩]
        lastSlot := slot
        answers := s.ord.answers ++ new } }
  rw [hv] at ht
  refine ⟨⟨⟨?_, ?_, ?_, ?_, ?_, ?_⟩, ?_, ?_⟩, ?_⟩
  all_goals rw [ht]
  · exact Memory.readWord_writeWord _ _ hs.memory
  · intro a ha
    exact Memory.read_writeWord_other _ hs.memory (by unfold inWord at ha; omega)
  · rfl
  · rfl
  · rfl
  · rfl
  · rfl
  · intro hne
    exact hn (by simpa using fun _ => hne)
  · rw [he]
    rfl

/-- An order in an A group slot passes when its parameters are in range. -/
theorem passes_of {slot : Slot} {o : Order} (h : slot.val < 12) (hr : orderInRange o = true) : Passes slot o := by
  have : inGroupB slot = false := by simp [inGroupB]; omega
  simp [Passes, cardRefusal, this, hr]

/-- An order that passed has its parameters in range. -/
theorem Passes.inRange {slot : Slot} {o : Order} (h : Passes slot o) : orderInRange o = true := by
  by_contra hb
  simp only [Passes, cardRefusal, hb] at h
  revert h
  cases inGroupB slot && !allowedInB (orderCode o) <;> simp

/-- An order command leaves what its owner makes of the card marked TAKEN. -/
theorem leaves_now {s e : State} {c : Instr} {slot : Slot} {o : Order} {new : List Answer} (hs : CardFree s slot)
    (hp : Passes slot o) (hc : exec c s = done (deliver slot o s)) (arb : Requester)
    (hh : handOver slot o (markTaken slot (orderCode o) (some o) s) = { e with
      mem := s.mem.writeWord (cardWord slot 0) cardTaken
      arbLast := arb
      ord := { s.ord with
        inFlight := s.ord.inFlight ++ [⟨slot, orderCode o, orderOwner o⟩]
        lastSlot := slot
        answers := s.ord.answers ++ new } })
    (he : e = { e with mem := s.mem, arbLast := s.arbLast, ord := s.ord }) :
    ∃ t, exec c s = .next t ∧ OrderLeaves s t slot o new e := by
  refine ⟨driveLines (deliver slot o s), hc, orderLeaves_of arb hs ?_ he⟩
  rw [deliver_free hs, takeCard_passes hp, hh]

/-- An order command refused by the checks leaves the refusal alone. -/
theorem refused_now {s : State} {c : Instr} {slot : Slot} {o : Order} {k : ResultCode} (hs : CardFree s slot)
    (hp : cardRefusal slot (orderCode o) (some o) = some k) (hc : exec c s = done (deliver slot o s)) :
    ∃ t, exec c s = .next t ∧ OrderLeaves s t slot o [answerOf slot k 0] s := by
  refine ⟨driveLines (deliver slot o s), hc, orderLeaves_of .orderUnit hs ?_ rfl⟩
  rw [deliver_free hs]
  simp only [takeCard, checkCard, hp]
  rfl

end Sys2Proof.Machine
end

