-- ==== Sys2Proof/Tests/Slice0.lean ====
section
/-! SUPPORT. Tests of one command each, on small states; expected results come from the rules and worked examples of spec/ that
each comment names. Then witnesses: states that meet the hypotheses of the statements. -/

set_option Elab.async false

namespace Sys2Proof.Tests

open Sys2Proof Sys2Proof.Machine

/-! ## States to start from -/

/-- The state a command leaves. -/
def after (c : Instr) (s : State) : State :=
  match exec c s with
  | .next t => t
  | .fault _ => s
  | .refused _ => s

/-- Pin reset state once READY is 1. -/
def up : State := { State.reset with phase := .running }

/-- The short frame of the examples of chapter 04, with limits of skew and time of its own. -/
def frame : FrameRecord := ⟨400, 3000, 1200, 160, 8, 2000, 100, 4, 40, 200, 50, 3000⟩

/-- Carriages of the short frame at two positions, positions valid. -/
def placed (v : Traverse) (u l : Nat) : CarriageController :=
  { CarriageController.reset with frame := some frame, valid := true, traverse := v, axis := ⟨⟨u, 0⟩, ⟨l, 0⟩⟩ }

/-- PARKED at the tending side. -/
def parked : State := { up with car := placed (.parked .tending) 400 400 }

/-- A move of both carriages under way. -/
def move (p : Purpose) (target : Nat) (d : Direction) : Move := ⟨p, target, d, ⟨false, false⟩, ⟨false, false⟩, 0⟩

/-- The scan record of a scan opened on the short frame. -/
def openRecord (d : Direction) : ScanRecord :=
  ⟨7, d, 0, 0, 0, binMap frame, resetProfileSettings, false, List.replicate 8 BinResult.notReached⟩

/-- SCANNING(FORWARD) at upper position `u`, the scan just opened, the lines following. -/
def scanning (u : Nat) : State :=
  driveLines { up with
    car := { placed (.scanning .forward) u u with move := some (move (.traverse .drive) 3000 .forward), plan := .continuous }
    prof := { up.prof with scanNumber := 7, openScan := some (openRecord .forward) }
    eng := { up.eng with accs := List.replicate 8 BinAcc.zero } }

/-- A traverse state with no move, at position 1000. -/
def standing (v : Traverse) : State := { up with car := placed v 1000 1000 }

/-- A moving traverse state at position 1000. -/
def moving (v : Traverse) (p : Purpose) (target : Nat) (d : Direction) : State :=
  driveLines { up with car := { placed v 1000 1000 with move := some (move p target d) } }

/-- The status block's values taken last. -/
def tickLast : TickOrder := ⟨true, true, true, true, []⟩

/-! ## Ill-formed terms are refused -/

theorem wf_refuses_register_values :
    [Instr.softReset 0x007F, .setNoticeMask 0x8000].all (fun i => !i.wf) = true := by decide

theorem wf_refuses_port_commands :
    [Instr.portALowHalfWrite 2 0, .portAHighHalfWrite 4 0, .portALowHalfRead 2, .portAHighHalfRead 4,
      .portBOtherCommand 0x03 [], .portBOtherCommand 0x02 []].all (fun i => !i.wf) = true := by decide

theorem wf_refuses_plain_parameters :
    [Instr.scan 0 65536, .moveTo 0 65536, .setTimebase 0 65536 0, .setTimebase 0 0 65536, .ackAlarms 0 65536,
      .setHorn 0 65536].all (fun i => !i.wf) = true := by decide

theorem wf_refuses_frame_fields :
    [{ frame with parkTend := 65536 }, { frame with parkDrive := 65536 }, { frame with bin0Pos := 65536 },
      { frame with binW := 65536 }, { frame with nbins := 65536 }, { frame with probePos := 65536 },
      { frame with approach := 65536 }, { frame with prescaler := 65536 }, { frame with skewHold := 65536 },
      { frame with skewFault := 65536 }, { frame with skewCal := 65536 }, { frame with moveTimeout := 65536 }].all
      (fun r => !(Instr.setFrame 0 r).wf) = true := by decide

theorem wf_refuses_cal_values :
    ([⟨65536, 0, 0, 0, 0⟩, ⟨0, -32769, 0, 0, 0⟩, ⟨0, 32768, 0, 0, 0⟩, ⟨0, 0, 65536, 0, 0⟩, ⟨0, 0, 0, 65536, 0⟩,
      ⟨0, 0, 0, 0, 65536⟩] : List CalValues).all (fun v => !(Instr.setCal 0 0 v).wf) = true ∧
    (Instr.setCal 0 65536 ⟨0, 0, 0, 0, 0⟩).wf = false := by decide

theorem wf_refuses_profile_settings :
    ([⟨65536, 0, 0, 0, 0, 0, 0, 0, 0⟩, ⟨0, 65536, 0, 0, 0, 0, 0, 0, 0⟩, ⟨0, 0, 65536, 0, 0, 0, 0, 0, 0⟩,
      ⟨0, 0, 0, 65536, 0, 0, 0, 0, 0⟩, ⟨0, 0, 0, 0, 65536, 0, 0, 0, 0⟩, ⟨0, 0, 0, 0, 0, 65536, 0, 0, 0⟩,
      ⟨0, 0, 0, 0, 0, 0, 65536, 0, 0⟩, ⟨0, 0, 0, 0, 0, 0, 0, 65536, 0⟩, ⟨0, 0, 0, 0, 0, 0, 0, 0, 65536⟩] :
      List ProfileSettings).all (fun p => !(Instr.setProfile 0 p).wf) = true := by decide

theorem wf_refuses_std_settings :
    ([⟨65536, 0, 0⟩, ⟨0, 65536, 0⟩, ⟨0, 0, 65536⟩] : List StdSettings).all (fun p => !(Instr.setStd 0 p).wf) = true := by decide

theorem wf_refuses_sheet_settings :
    let p := resetSheetSettings
    [{ p with breakThreshold := 65536 }, { p with breakRun := 65536 }, { p with brkDebounce := 65536 },
      { p with resumeMode := 65536 }, { p with sheetOnThreshold := 65536 }, { p with sheetOnTicks := 65536 },
      { p with edgeStep := 65536 }, { p with streakLimit := 65536 }, { p with streakMinWidth := 65536 },
      { p with massLo := 65536 }, { p with massHi := 65536 }, { p with moistLo := 65536 },
      { p with moistHi := 65536 }].all (fun q => !(Instr.setSheet 0 q).wf) = true := by decide

theorem wf_refuses_alarm_cards :
    ([⟨65536, 0, 0, 0, 0⟩, ⟨0, 65536, 0, 0, 0⟩, ⟨0, 0, 65536, 0, 0⟩, ⟨0, 0, 0, 65536, 0⟩, ⟨0, 0, 0, 0, 65536⟩] :
      List AlarmCard).all (fun c => !(Instr.setAlarm 0 c).wf) = true := by decide

theorem wf_refuses_export_and_guard_cards :
    ([⟨65536, 0, 0⟩, ⟨0, 65536, 0⟩, ⟨0, 0, 65536⟩] : List ExportCard).all (fun c => !(Instr.setExport 0 c).wf) = true ∧
    ([⟨65536, 0, 0, 0, 0⟩, ⟨0, 65536, 0, 0, 0⟩, ⟨0, 0, 65536, 0, 0⟩, ⟨0, 0, 0, 65536, 0⟩, ⟨0, 0, 0, 0, 65536⟩] :
      List GuardCard).all (fun c => !(Instr.setGuard 0 c).wf) = true := by decide

theorem wf_accepts_the_edges :
    [Instr.softReset 0x8000, .setNoticeMask 0x7FFF, .portALowHalfWrite 0xFFFC 0, .portAHighHalfRead 0xFFFE,
      .portBOtherCommand 0x04 [], .setFrame 15 frame, .setCal 0 65535 ⟨65535, -32768, 65535, 65535, 65535⟩,
      .setSheet 0 resetSheetSettings, .scan 0 65535].all (fun i => i.wf) = true := by decide

/-! ## Resets, start-up and the register window -/

-- R29, R30, R192: pin reset forgets the frame record; a soft reset keeps it and the mask it carries.
theorem test_pinReset : (after .pinReset (scanning 500)).car.frame = none ∧
    (after .pinReset (scanning 500)).pins.run = ⟨false, false⟩ := by decide
theorem test_softReset : (after (.softReset 0x8005) (scanning 500)).car.frame = some frame ∧
    (after (.softReset 0x8005) (scanning 500)).car.traverse = .halted ∧
    (after (.softReset 0x8005) (scanning 500)).mask = 5 := by decide
theorem test_softReset_abandons_a_card :
    ((after (.softReset 0x8000) (after (.stopEnd 4) (scanning 500))).mem.readWord (cardWord 4 14)) = 3 := by decide
-- R190 and chapter 10's example: the page word in progress is granted before the publication stops, and no word after it.
theorem test_softReset_grants_the_page_word :
    let s := { up with prof := { up.prof with publication := some ⟨true, publicationCopy (closedScan (.aborted .stop)
      (openRecord .forward) 0 0) up, 1⟩ } }
    let t := after (.softReset 0x8000) s
    t.mem.readWord (pageWordIdx true 1) = 7 ∧ t.mem.length = 1 ∧ t.prof.publication = none ∧ t.notices &&& Notice.scan.bit = 0 := by decide
theorem test_startUpClear : (after .startUpClear State.reset).phase = .clearing 0 := by decide
theorem test_startUpClearEnd :
    (after .startUpClearEnd { State.reset with phase := .clearing 5, mem := [(7, 1)] }).phase = .running ∧
    (after .startUpClearEnd { State.reset with phase := .clearing 5, mem := [(7, 1)] }).mem = [] := by decide
-- R199: ATTN follows the mask; a NOTICE write of 1 clears its flag only.
theorem test_setNoticeMask : (after (.setNoticeMask 0x0002) { up with notices := 3 }).pins.attn = true ∧
    (after (.setNoticeMask 0x0004) { up with notices := 3 }).pins.attn = false := by decide
theorem test_noticeClear : (after (.noticeClear 0xFF01) { up with notices := 3 }).notices = 2 := by decide
-- R208: a nudge examines from the slot after the last slot taken, which is 15 after pin reset.
theorem test_nudge : (after (.nudge true 0) up).ord.service = some ⟨List.finRange 16, none⟩ := by decide
theorem test_nudge_queues : (after (.nudge false 7) (after (.nudge true 0) up)).ord.queued = true := by decide
theorem test_registerWriteIgnored : after (.registerWriteIgnored .controlHigh 0xFFFF) parked = parked := by decide

/-! ## Ports and arbiter -/

-- Chapter 11, R195: the low half waits in the latch, the high half stores the word.
theorem test_portALowHalfWrite :
    (after (.portALowHalfWrite 0x0140 0x1234) up).portA.latch = some (80, 0x1234) ∧
    (after (.portALowHalfWrite 0x0140 0x1234) up).mem = [] := by decide
theorem test_portAHighHalfWrite :
    (after (.portAHighHalfWrite 0x0142 0x5678) (after (.portALowHalfWrite 0x0140 0x1234) up)).mem.readWord 80 = 0x56781234 := by
  decide
theorem test_portAHighHalfWrite_unpaired :
    (after (.portAHighHalfWrite 0x0142 0x0055) (after (.portALowHalfWrite 0x0100 0x1234) up)).mem.readWord 80 = 0x00550000 := by
  decide
-- R204, R207: port A may not write the status block.
theorem test_portALowHalfWrite_denied :
    (after (.portALowHalfWrite 0x0000 1) up).guard.fault = some ⟨.a, .write, 0, false⟩ ∧
    (after (.portALowHalfWrite 0x0000 1) up).notices = 0x44 := by decide
theorem test_portALowHalfRead :
    (after (.portALowHalfRead 0x0140) { up with mem := [(320, 0x34), (323, 0x56)] }).portA =
      ⟨none, some (80, 0x56000034), 0x0034⟩ := by decide
theorem test_portAHighHalfRead :
    (after (.portAHighHalfRead 0x0142) { up with portA := ⟨none, some (80, 0xABCD0000), 0⟩ }).portA.data = 0xABCD := by decide
-- R197: high byte first, the address rises by 4, the two low address bits are ignored.
theorem test_portBRead :
    (after (.portBRead [0x01, 0x43, 0, 0, 0, 0]) { up with mem := [(320, 0x34), (323, 0x56)] }).portB =
      ⟨some ⟨.read, [0x01, 0x43], 0x0144, 0, 0x56000034⟩, [0, 0, 0, 0x56, 0, 0, 0x34]⟩ := by decide
theorem test_portBWrite :
    (after (.portBWrite [0x04, 0x04, 0x00, 0xA5, 0x00, 0x18]) up).mem.readWord 0x101 = 0x00A50018 := by decide
theorem test_portBWrite_denied :
    (after (.portBWrite [0x01, 0x00, 0, 0, 0, 1]) up).guard.fault = some ⟨.b, .write, 0x0100, false⟩ := by decide
theorem test_portBOtherCommand : (after (.portBOtherCommand 0x05 [1, 2]) up).portB.out = [0, 0, 0] := by decide
theorem test_portBTransferEnd :
    (after .portBTransferEnd (after (.portBWrite [0x04, 0x04, 0xFF]) up)).portB.transfer = none ∧
    (after .portBTransferEnd (after (.portBWrite [0x04, 0x04, 0xFF]) up)).mem = [] := by decide
-- R193: after the status block refresh the ring goes on to the order unit before the refresh again.
theorem test_arbiterGrant :
    (after .arbiterGrant { up with refresh := some ⟨[], 5⟩, ord := { up.ord with answers := [answerOf 3 .ok 9] } }).arbLast =
      .orderUnit := by decide
theorem test_arbiterGrant_clears :
    (after .arbiterGrant { State.reset with phase := .clearing 4, mem := [(16, 9)] }).mem = [] := by decide

/-! ## Time, links and records -/

-- R31, R61: the tick counts, the means of the tick are read out (chapter 03: 45,021 over 10 records is 4502.1).
theorem test_serviceTick :
    let t := after (.serviceTick false tickLast) { up with eng := { up.eng with pointAcc := ⟨⟨45021, 10⟩, ⟨0, 0⟩, ⟨5, 2⟩⟩ } }
    t.time.tick = 1 ∧ t.eng.point.mass = some 4502 ∧ t.eng.point.water = none ∧ t.eng.point.cal = some 3 := by decide
-- R135, R136: the third active tick leaves an EXTERNAL break to be taken.
theorem test_serviceTick_break_line :
    (after (.serviceTick true tickLast) { up with sheet := { up.sheet with debounce := 1 } }).sheet.externalDue = false ∧
    (after (.serviceTick true tickLast) { up with sheet := { up.sheet with debounce := 2 } }).sheet.externalDue = true := by decide
theorem test_queuedCardService :
    (after .queuedCardService { up with ord := { up.ord with queued := true } }).ord.queued = false ∧
    (after .queuedCardService { up with ord := { up.ord with queued := true } }).ord.service.isSome = true := by decide
-- R4, R32: the strobe captures the upper position and upper minus lower.
theorem test_sampleStrobe : (after .sampleStrobe { up with car := placed .halted 1210 1200 }).eng.captures = [⟨1, 1210, 10, none⟩] := by
  decide

/-- A receiver that clocks in the frame of a strobe. -/
def clocking (k : Word) : PerBeam Receiver := .both { Receiver.reset with transfer := some k }

-- Chapter 02, check byte of a pair of frames: strobe 1234 delivers mass 9630 and water 3150.
theorem test_headLinkTransferComplete :
    (after (.headLinkTransferComplete (.upper 0xC0 0x25 0x9E 0x0C 0x4E 0xD2 0x50)) { up with links := clocking 1234 }).links.upper.slots =
      [⟨1234, 0xC0, 9630, 3150⟩] := by decide
-- Chapter 02: a silent head's zeros sum to 0, which is CHECK; a wrong count is SEQUENCE.
theorem test_headLinkTransferComplete_bad :
    (after (.headLinkTransferComplete (.upper 0 0 0 0 0 0 0)) { up with links := clocking 1234 }).links.upper.lastError = .check ∧
    (after (.headLinkTransferComplete (.lower 0x80 0x1F 0x40 0xD2 0x4E)) { up with links := clocking 1233 }).links.lower.lastError =
      .sequence := by decide

/-- A strobe captured and its two frames delivered: strobe 1, mass 9630, water 3150, caliper 8000, skew `k`. -/
def delivered (k : Int) (s : State) : State :=
  { s with
    time := { s.time with strobe := 1 }
    eng := { s.eng with captures := [⟨1, s.car.axis.upper.pos, k, moveDirection s.car⟩] }
    links := ⟨{ Receiver.reset with settled := 1, slots := [⟨1, 0xC0, 9630, 3150⟩] },
      { Receiver.reset with settled := 1, slots := [⟨1, 0x80, 8000, 0⟩] }⟩ }

-- R41, R42: caliper is absent beyond skew_cal, which is 50 here.
theorem test_formSampleRecord :
    (after .formSampleRecord (delivered 51 (standing (.singlePoint 1000)))).eng.pointAcc = ⟨⟨9630, 1⟩, ⟨3150, 1⟩, ⟨0, 0⟩⟩ ∧
    (after .formSampleRecord (delivered 50 (standing (.singlePoint 1000)))).eng.pointAcc.cal = ⟨8000, 1⟩ := by decide
-- Chapter 04, assignment during a forward traverse: a record at 1700 after bin 1 opens bin 3 and closes 1 and 2.
theorem test_formSampleRecord_bins :
    let s := scanning 1700
    let t := after .formSampleRecord (delivered 0 { s with eng := { s.eng with openBin := some 1, binsDone := 1 } })
    t.eng.openBin = some 3 ∧ t.eng.binsDone = 3 ∧ (t.eng.accs.getD 3 BinAcc.zero).acc.mass = ⟨9630, 1⟩ := by decide
theorem test_recordTaken :
    (after .recordTaken (after .formSampleRecord (delivered 0 (standing .halted)))).eng.nextStrobe = 2 := by decide

/-! ## The sheet -/

-- R129, R130, R23: a break in SCANNING sends the carriages to the nearest park.
theorem test_sampleBreak :
    let s := scanning 1800
    let t := after .sampleBreak { s with sheet := { s.sheet with state := .on, sampleDue := true } }
    t.sheet.state = .off ∧ t.car.traverse = .breakPark .drive ∧ t.pins.run = ⟨true, true⟩ := by decide
theorem test_sampleBreak_tie :
    let s := scanning 1700
    let t := after .sampleBreak { s with sheet := { s.sheet with sampleDue := true } }
    t.prof.closed.map (·.completion) = some (.aborted .brk) ∧ t.car.traverse = .breakPark .tending := by decide
theorem test_externalBreak :
    (after .externalBreak { parked with sheet := { parked.sheet with externalDue := true } }).sheet.source = .external ∧
    (after .externalBreak { parked with sheet := { parked.sheet with externalDue := true } }).car.traverse = .parked .tending := by
  decide
-- R24, R141: from PROBING the carriages return to the nearest park.
theorem test_probeSheetOn :
    let s := standing (.probing true)
    let t := after .probeSheetOn { s with sheet := { s.sheet with state := .off, onDue := true }, prof := { s.prof with reseed := false } }
    t.sheet.state = .on ∧ t.prof.reseed = true ∧ t.car.traverse = .positioning .returning := by decide

/-! ## The frame -/

-- R3: with prescaler 4 the fourth edge moves the count; in reverse it stops at 0.
theorem test_quadratureEdge :
    let s := { up with car := { placed .halted 7 0 with valid := false, axis := ⟨⟨7, 3⟩, ⟨0, -3⟩⟩ } }
    (after (.quadratureEdge .upper .forward) s).car.axis.upper = ⟨8, 0⟩ ∧
    (after (.quadratureEdge .lower .reverse) s).car.axis.lower = ⟨0, 0⟩ ∧
    (after (.quadratureEdge .upper .reverse) s).car.axis.upper = ⟨7, 2⟩ := by decide
-- R10: 201 counts of skew are beyond skew_fault 200.
theorem test_quadratureEdge_alignment :
    let s := standing (.parked .tending)
    (after (.quadratureEdge .upper .forward) { s with car := { s.car with axis := ⟨⟨1200, 3⟩, ⟨1000, 0⟩⟩ } }).car.cause =
      some .alignment := by decide
theorem test_moveTimeout :
    let s := scanning 500
    let late := { s with car := { s.car with move := some { move (.traverse .drive) 3000 .forward with timer := 3000 } } }
    (after .moveTimeout late).car.cause = some .travelTimeout ∧ (after .moveTimeout s).car.traverse = .scanning .forward := by decide
-- R14: the second home switch makes the positions valid and starts the move to park_tend.
theorem test_homeSwitch :
    let s := after (.homeSwitch .upper true) (after (.home 3) parked)
    s.car.axis.upper.pos = 0 ∧ (after (.homeSwitch .lower true) s).car.valid = true ∧
    (after (.homeSwitch .lower true) s).car.traverse = .homing .parkHome := by decide
-- R25: only the limit the carriage moves toward faults it.
theorem test_limitSwitch :
    (after (.limitSwitch .lower .drive true) (scanning 500)).car.cause = some .travelLimit ∧
    (after (.limitSwitch .lower .tending true) (scanning 500)).car.traverse = .scanning .forward := by decide
theorem test_frameOkLow : (after (.frameOkLow true) parked).car.cause = some .interlock ∧
    (after (.frameOkLow true) up).car.traverse = .halted := by decide
theorem test_drvOkLow : (after (.drvOkLow .upper true) (scanning 500)).car.cause = some .driveNotReady ∧
    (after (.drvOkLow .upper true) parked).car.traverse = .parked .tending := by decide

/-! ## Orders of the carriage controller -/

/-- The answers a command decides. -/
def answers (c : Instr) (s : State) : List Answer := (after c s).ord.answers

-- R1: the first record changes the geometry (1); another prescaler invalidates positions (2).
theorem test_setFrame : answers (.setFrame 2 { frame with prescaler := 1 }) up = [answerOf 2 .ok 1] ∧
    (after (.setFrame 2 { frame with prescaler := 1 }) up).prof.table.mass.length = 8 := by decide
theorem test_setFrame_prescaler : answers (.setFrame 2 { frame with prescaler := 16 }) parked = [answerOf 2 .ok 2] ∧
    (after (.setFrame 2 { frame with prescaler := 16 }) parked).car.traverse = .halted := by decide
theorem test_home : (after (.home 3) parked).car.traverse = .homing .seek ∧ (after (.home 3) parked).car.valid = false ∧
    (after (.home 3) parked).pins.dir = ⟨false, false⟩ := by decide
theorem test_home_refused : answers (.home 3) up = [answerOf 3 .notReady 0] := by decide
-- R15, R16: the traverse toward the drive side, the plan counted, the number raised.
theorem test_scan : answers (.scan 4 2) parked = [answerOf 4 .ok 1] ∧ (after (.scan 4 2) parked).car.plan = .remaining 1 ∧
    (after (.scan 4 2) parked).car.traverse = .scanning .forward := by decide
theorem test_scan_pending : answers (.scan 4 0) (scanning 500) = [answerOf 4 .ok 8] ∧
    (after (.scan 4 0) (scanning 500)).car.nextPlan = some .continuous := by decide
theorem test_stopEnd : answers (.stopEnd 4) (scanning 500) = [] ∧
    (after (.stopEnd 4) (scanning 500)).car.long = some ⟨.stopEnd, 4⟩ := by decide
theorem test_stopEnd_parked : answers (.stopEnd 4) parked = [answerOf 4 .ok 0] := by decide
theorem test_stopNow : (after (.stopNow 4) (scanning 1700)).car.traverse = .positioning .park ∧
    (after (.stopNow 4) (scanning 1700)).car.plan = .empty := by decide
/-- The state after `n` grants. -/
def granted : Nat → State → State
  | 0, s => s
  | n + 1, s => granted n (after .arbiterGrant s)

/-- A STOP NOW taken while a STOP END is held. -/
def superseding : State := after (.stopNow 5) (after (.stopEnd 4) (scanning 1700))

-- R12, R22, R212: a STOP NOW supersedes a STOP END, which holds the long-order slot until its answer's last write.
theorem test_stopNow_supersedes : superseding.ord.answers = [endedOf 4 .superseded 0] ∧
    superseding.car.traverse = .positioning .park ∧ (granted 2 superseding).car.long = some ⟨.stopEnd, 4⟩ ∧
    (granted 3 superseding).mem.readWord (cardWord 4 0) = 3 ∧ (granted 3 superseding).car.long = some ⟨.stopNow, 5⟩ := by decide
-- R12, R28: a fault between abandons the newer order; the older keeps its answer.
theorem test_frameOkLow_abandons_the_newer : (after (.frameOkLow true) superseding).ord.answers =
    [endedOf 4 .superseded 0, endedOf 5 .abandoned 0] ∧ (after (.frameOkLow true) superseding).car.underWay = none := by decide
-- R193: a port read falls between the writes of the older card's answer, at 0x0238 its word 14.
theorem test_stopNow_port_between : (after (.portALowHalfRead 0x0238) superseding).portA.data = 0 ∧
    (after (.portALowHalfRead 0x0238) (granted 1 superseding)).portA.data = 2 := by decide
theorem test_moveTo : (after (.moveTo 6 2000) parked).car.move = some (move .point 2000 .forward) := by decide
theorem test_moveTo_refused : answers (.moveTo 6 399) parked = [answerOf 6 .badParam 0] ∧
    answers (.moveTo 6 400) parked = [endedOf 6 .ok 400] := by decide
-- R20: position 1700 is as far from either park: the tending side.
theorem test_park : (after (.park 7) { up with car := placed (.singlePoint 1700) 1700 1700 }).car.move =
    some (move (.park .tending) 400 .reverse) := by decide
theorem test_park_done : answers (.park 7) parked = [answerOf 7 .ok 0] := by decide

/-! ## Settings and orders of the other blocks -/

-- R193, R210: an order command waits for the answer before it, with a refresh granted between the order unit's writes.
theorem test_reseed_waits :
    let s := { after (.setHorn 1 2) up with refresh := some ⟨List.replicate 64 0, 1⟩ }
    let t := after (.reseed 2) s
    t.mem.readWord (cardWord 1 0) = 3 ∧ t.ord.answers = [answerOf 2 .ok 1] ∧ t.refresh.map (·.next) = some 5 := by decide

theorem test_setTimebase : (after (.setTimebase 1 0 2) parked).time.next = some (0, 2) ∧
    answers (.setTimebase 1 0 3) parked = [answerOf 1 .badParam 0] := by decide
theorem test_setTimebase_busy : answers (.setTimebase 1 0 2) (scanning 500) = [answerOf 1 .busy 0] := by decide
-- Chapter 03, calibration arriving during a scan.
theorem test_setCal : answers (.setCal 1 0 ⟨8800, 0, 0, 0, 0⟩) (scanning 500) = [answerOf 1 .ok 1] ∧
    (after (.setCal 1 0 ⟨8800, 0, 0, 0, 0⟩) (scanning 500)).eng.cal.mass.values.gain = 16384 := by decide
theorem test_setCal_at_once : (after (.setCal 1 2 ⟨1650, 0, 0, 0, 0⟩) parked).eng.cal.cal.values.gain = 1650 ∧
    (after (.setCal 1 2 ⟨1650, 0, 0, 0, 0⟩) parked).eng.calGen = 1 := by decide
theorem test_setProfile : answers (.setProfile 1 resetProfileSettings) (scanning 500) = [answerOf 1 .ok 1] ∧
    answers (.setProfile 1 { resetProfileSettings with kmd := 17 }) parked = [answerOf 1 .badParam 0] := by decide
theorem test_reseed : answers (.reseed 1) up = [answerOf 1 .ok 1] ∧
    answers (.reseed 1) { up with prof := { up.prof with reseed := false } } = [answerOf 1 .ok 0] := by decide
theorem test_standardize : (after (.standardize 13) parked).car.traverse = .standardizing .tending ∧
    (after (.standardize 13) parked).std.dwell = some ⟨20, 100, 0, Acc.zero3⟩ := by decide
theorem test_standardize_busy : answers (.standardize 13) (standing (.singlePoint 1000)) = [answerOf 13 .busy 0] := by decide
-- Chapter 06: a new interval of 2 with the count at 2 sets the due flag.
theorem test_setStd : answers (.setStd 1 ⟨2, 20, 100⟩) { up with std := { up.std with count := 2 } } = [answerOf 1 .ok 1] ∧
    answers (.setStd 1 ⟨0, 20, 100⟩) { up with std := { up.std with count := 2 } } = [answerOf 1 .ok 0] := by decide

/-- Chapter 06, a dwell with one pass and two failures. -/
def dwellOver : State :=
  { up with
    car := placed (.standardizing .drive) 3000 3000
    eng := { up.eng with cal := ⟨⟨⟨16384, 0, 1200, 4000, 1000⟩, 1230⟩, ⟨⟨16384, 0, 1000, 60, 1000⟩, 1050⟩,
      ⟨⟨16384, 0, 1000, 4000, 1000⟩, 1000⟩⟩ }
    std := { up.std with zeroGen := 5, card := some 13, due := true,
                         dwell := some ⟨20, 100, 20, ⟨⟨246130, 200⟩, ⟨216000, 200⟩, ⟨64070, 64⟩⟩⟩ } }

theorem test_dwellEnd : (after .dwellEnd dwellOver).eng.cal.mass.zero = 1231 ∧
    (after .dwellEnd dwellOver).eng.cal.water.zero = 1050 ∧ (after .dwellEnd dwellOver).std.zeroGen = 6 := by decide
theorem test_dwellEnd_answer : answers .dwellEnd dwellOver = [endedOf 13 .ok 0x231] ∧
    (after .dwellEnd dwellOver).car.traverse = .parked .drive := by decide
theorem test_setSheet : (after (.setSheet 1 { resetSheetSettings with breakRun := 4 }) up).sheet.settings.breakRun = 4 ∧
    answers (.setSheet 1 { resetSheetSettings with massLo := 5, massHi := 4 }) up = [answerOf 1 .badParam 0] := by decide
theorem test_resume : answers (.resume 9) { up with sheet := { up.sheet with state := .off, source := .noSheet } } =
    [answerOf 9 .ok 3] := by decide
-- R138: the break of a record that had reached break_run is taken after a RESUME as well.
theorem test_resume_keeps_a_due_break :
    let s := standing (.singlePoint 1000)
    let t := after (.resume 9) { s with sheet := { s.sheet with state := .off, sampleDue := true } }
    t.sheet.state = .on ∧ (after .sampleBreak t).sheet.state = .off := by decide
theorem test_resume_refused : answers (.resume 9) { up with sheet := { up.sheet with state := .off, debounce := 1 } } =
    [answerOf 9 .busy 0] ∧ answers (.resume 9) up = [answerOf 9 .notReady 0] := by decide

/-! ## Alarms -/

/-- The alarm table with one entry changed. -/
def alarmed (k : AlarmKind) (e : AlarmEntry) : State :=
  driveLines { up with alarm := up.alarm.setEntry k e }

/-- An unacknowledged MAJOR entry whose condition is present. -/
def ringing : AlarmEntry := { AlarmEntry.reset true with condition := true, state := .activeUnacked }

-- R157, R162: the end of a holdoff activates the entry and clears the silence flag.
theorem test_holdoffEnd :
    let s := alarmed .travel { ringing with state := .holdoff }
    let t := after (.holdoffEnd .travel) { s with alarm := { s.alarm with silence := true } }
    (t.alarm.entry .travel).state = .activeUnacked ∧ t.alarm.silence = false ∧ t.pins.horn = true := by decide
-- R157, R165, R201: the tick that runs a holdoff out shows the entry of kind 7 as it was, HOLDOFF with 1 left, or ACTIVE_UNACKED with 0.
theorem test_serviceTick_holdoff :
    let s := alarmed .travel { ringing with state := .holdoff, remaining := 1 }
    let shown : Bool → Option Word := fun late =>
      (after (.serviceTick false { tickLast with refreshAfterHoldoff := late }) s).refresh.map fun r => r.words.getD 19 0 &&& 0xFF000007
    shown false = some 0x01000001 ∧ shown true = some 2 := by decide
-- R159: disabling an active entry makes it NORMAL; a new severity restarts it.
theorem test_setAlarm : answers (.setAlarm 1 ⟨7, 0, 1, 0, 1⟩) (alarmed .travel ringing) = [answerOf 1 .ok 0] ∧
    (after (.setAlarm 1 ⟨7, 0, 1, 0, 1⟩) (alarmed .travel ringing)).notices = 4 := by decide
theorem test_setAlarm_restarts : answers (.setAlarm 1 ⟨7, 1, 0, 9, 1⟩) (alarmed .travel ringing) = [answerOf 1 .ok 1] := by decide
theorem test_ackAlarms : answers (.ackAlarms 12 0x0FFF) (alarmed .travel ringing) = [answerOf 12 .ok 1] ∧
    ((after (.ackAlarms 12 0x0FFF) (alarmed .travel ringing)).alarm.entry .travel).state = .activeAcked := by decide
theorem test_silenceHorn : answers (.silenceHorn 12) (alarmed .travel ringing) = [answerOf 12 .ok 1] ∧
    (after (.silenceHorn 12) (alarmed .travel ringing)).pins.horn = false := by decide
theorem test_setHorn : (after (.setHorn 1 3) (after .hornHalfPeriod (alarmed .travel ringing))).pins.horn = true ∧
    (after (.setHorn 1 3) up).alarm.tone = 3 := by decide
theorem test_flashHalf : (after .flashHalf (alarmed .travel ringing)).pins.lamp = true ∧
    (after .flashHalf up).pins.lamp = false := by decide
theorem test_hornHalfPeriod : (alarmed .travel ringing).pins.horn = true ∧
    (after .hornHalfPeriod (alarmed .travel ringing)).pins.horn = false := by decide

/-! ## Export, pages and guard -/

theorem test_setExport : answers (.setExport 1 ⟨1, 3, 0⟩) { up with exp := { up.exp with cycle := 57 } } = [answerOf 1 .ok 57] ∧
    answers (.setExport 1 ⟨1, 16, 0⟩) up = [answerOf 1 .badParam 0] := by decide

/-- Chapter 09, frame encoding: cycle 1234 on a frame of 240 bins after scan 15. -/
def sending (n : Nat) (w : Option (BitVec 48)) : State :=
  driveLines { up with
    exp := { up.exp with cycle := 1234, sending := some ⟨some ⟨[⟨.mass, 4305, []⟩], 240, .on, 15⟩, 0, n, w⟩ } }

theorem test_exportFrameStart : ((after .exportFrameStart (sending 0 none)).exp.sending.bind (·.wire)) = some 0x404D2000F4F0 ∧
    (after .exportFrameStart (sending 0 none)).pins.xfrm = true := by decide
theorem test_exportFrameStart_md : ((after .exportFrameStart (sending 1 none)).exp.sending.bind (·.wire)) = some 0xC10D10000000 := by
  decide
theorem test_exportFrameEnd : ((after .exportFrameEnd (sending 1 (some 5))).exp.sending.map (·.frame)) = some 2 ∧
    (after .exportFrameEnd (sending 241 (some 5))).exp.sending = none := by decide

/-- A closed scan of no bins with its publication copy. -/
def copy : PublicationCopy :=
  publicationCopy (closedScan (.aborted .stop) (openRecord .forward) 0 0) up

theorem test_publicationComplete :
    let s := { up with prof := { up.prof with publication := some ⟨true, copy, 2432⟩ } }
    (after .publicationComplete s).mem.readWord 3456 = 1 ∧ (after .publicationComplete s).prof.lastPublished = 7 ∧
    (after .publicationComplete s).notices = 2 := by decide
theorem test_setGuard : (after (.setGuard 1 ⟨8, 1, 9, 9, 9⟩) up).guard.deny = true ∧
    ((after (.setGuard 1 ⟨4, 0x5C00, 0x5CFF, 5, 1⟩) up).guard.ranges[4]) = ⟨0x5C00, 0x5CFF, ⟨true, false, true, false⟩, true⟩ := by
  decide
theorem test_setGuard_refused : answers (.setGuard 1 ⟨4, 0x5C01, 0x5CFF, 5, 1⟩) up = [answerOf 1 .badParam 0] := by decide
theorem test_clearGuardFault :
    answers (.clearGuardFault 1) { up with guard := { up.guard with fault := some ⟨.b, .read, 8, true⟩ } } = [answerOf 1 .ok 2] ∧
    answers (.clearGuardFault 1) up = [answerOf 1 .ok 0] := by decide

/-! ## Computations -/

-- Chapter 03, converting the readings of one strobe; rounding and clamping at the limits.
theorem test_convert :
    let c : Nat → Nat → Int → CalRecord := fun z g o => ⟨⟨g, o, 0, 0, 0⟩, z⟩
    [convert (c 1230 8778 0) 9630, convert (c 1050 3121 0) 3150, convert (c 1000 1638 0) 8000, convert (c 1230 8192 0) 1231,
      convert (c 1230 8192 100) 1229, convert (c 1230 16384 0) 1000, convert (c 0 65535 0) 65535,
      convert (c 5000 20000 (-40)) 5000, convert (c 4000 0 250) 20000] =
      [4500, 400, 700, 1, 99, 0, 65535, 0, 250] := by decide
-- Chapter 03, derived quantities at the limits.
theorem test_derived :
    [deriveMoist (some 4500) (some 400), deriveMoist (some 3) (some 1), deriveMoist (some 4000) (some 5000),
      deriveMoist (some 0) (some 120), deriveMoist (some 3) (some 2)] = [some 889, some 3333, some 10000, none, some 6667] ∧
    [deriveDry (some 4500) (some 400), deriveDry (some 4000) (some 5000), deriveDry (some 0) (some 120)] =
      [some 4100, some 0, some 0] := by decide
-- Chapter 05, single filter steps.
theorem test_filter_steps :
    [(FilterEntry.update 4 (some 12) ⟨-37, 3, false⟩).f, (FilterEntry.update 8 (some 11) ⟨10, 3, false⟩).f,
      (FilterEntry.update 8 (some 9) ⟨10, 3, false⟩).f, (FilterEntry.update 1 (some 17) ⟨10, 3, false⟩).f,
      (FilterEntry.update 1 (some 18) ⟨10, 3, false⟩).f, (FilterEntry.update 16 (some (-65535)) ⟨-20000, 3, false⟩).f] =
      [-25, 11, 9, 10, 11, -65535] := by decide
-- Chapter 09: the MOIST bin frame of bin 17 with F -25, and the saturation of F -65535.
theorem test_bin_frames : binFrame .moist 17 ⟨-25, true, false, false⟩ = 0x908FFF3C0000 ∧
    binFrame .mass 0 ⟨-65535, true, false, false⟩ = 0x800400040000 := by decide

/-- Bins of chapter 04's COMPLETE scan: mass count and mean, water count and mean. -/
def exampleBins : List BinResult :=
  [(12, 300, 12, 10), (12, 4350, 12, 390), (3, 4480, 3, 400), (12, 4520, 12, 400), (12, 4460, 2, 395), (12, 4500, 12, 400),
    (12, 4410, 12, 398), (12, 600, 12, 20)].map fun (mc, m, wc, w) =>
      binResult 4 ⟨⟨⟨m * mc, mc⟩, ⟨w * wc, wc⟩, ⟨0, 0⟩⟩, false, false⟩

/-- The scan of chapter 04 with edge_margin 1. -/
def exampleScan : ScanRecord :=
  { openRecord .forward with results := exampleBins, settings := { resetProfileSettings with edgeMargin := 1 } }

-- Chapter 04: edges 1 and 6, MD average 4493, deviations 27, -33, 7, spread 60; MOIST 887 with spread 4.
theorem test_close :
    let c := closedScan .complete exampleScan 8 0
    c.edges = some (1, 6) ∧ c.mdAverage.mass = some 4493 ∧ c.mdAverage.moist = some 887 ∧ c.spread.mass = some 60 ∧
    c.spread.moist = some 4 ∧ c.bins.map (·.deviation.mass) = [none, none, none, some 27, some (-33), some 7, none, none] := by
  decide

-- 12, the card: SCAN with repeat 5 and tag 0xBEEF.
theorem test_card_decodes : orderWords 0xBEEF (.scan 5) = [0xBEEF0003, 5, 0, 0, 0, 0, 0, 0, 0, 0, 0, 0, 0] ∧
    cardOrder [0xBEEF0003, 5, 0, 0, 0, 0, 0, 0, 0, 0, 0, 0, 0] = some (.scan 5) := by decide
theorem test_no_word_spells_a_command : decodeTableWord 16 0x4810 = none ∧ up.withFetchWord 16 0x4810 = up := by decide
theorem test_step_runs_the_front :
    (match step { up with pending := [.flashHalf] } with | .next t => t.alarm.flashOn | _ => false) = true := by decide

/-! ## Witnesses: the hypotheses of the statements are met

Each theorem names a statement and shows, clause by clause, states and operands that meet its hypotheses together, at boundary
values where a clause has a range. -/

/-- The part serves, as a check that computes. -/
def servesB (s : State) : Bool := decide (s.phase = .running) && decide (driveLines s = s) && s.mem.wf

theorem serving_of {s : State} (h : servesB s = true) : Serving s := by
  simp only [servesB, Bool.and_eq_true, decide_eq_true_eq] at h
  exact ⟨h.1.1, h.1.2, h.2⟩

/-- A card may be taken, as a check that computes. -/
def freeB (s : State) (slot : Slot) : Bool := servesB s && !inFlight s slot && mayTake s

theorem cardFree_of {s : State} {slot : Slot} (h : freeB s slot = true) : CardFree s slot := by
  simp only [freeB, mayTake, Bool.and_eq_true, Bool.not_eq_true', List.isEmpty_iff] at h
  refine ⟨serving_of h.1.1, h.1.2, h.2.1.1, fun left c hc => ?_, (hisTurn_iff .orderUnit s).1 h.2.2⟩
  simp [readingCard, hc] at h

theorem onlyWaits_of {s : State} {r : Requester}
    (h : (waits s r && [Requester.portA, .portB, .orderUnit, .profileEngine, .statusRefresh].all
      fun q => q == r || !waits s q) = true) : OnlyWaits s r := by
  simp only [Bool.and_eq_true, List.all_cons, Bool.or_eq_true, beq_iff_eq, Bool.not_eq_true'] at h
  obtain ⟨h0, h1, h2, h3, h4, h5, -⟩ := h
  refine ⟨h0, fun q hq => ?_⟩
  cases q
  · exact h1.resolve_left hq
  · exact h2.resolve_left hq
  · exact h3.resolve_left hq
  · exact h4.resolve_left hq
  · exact h5.resolve_left hq

/-! ### The queue, the lines, the memory, the drives -/

theorem witness_StepRunsTheFrontCommand : State.reset.pending = [] := rfl

theorem witness_OutputLinesFollowEveryCommand : exec (.holdoffEnd .travel) (alarmed .travel { ringing with state := .holdoff }) =
    .next (after (.holdoffEnd .travel) (alarmed .travel { ringing with state := .holdoff })) := rfl

theorem witness_MemoryStaysCanonical :
    let s := { up with pending := [.portAHighHalfWrite 0x0142 7] }
    s.mem.wf = true ∧ step s = .next (after (.portAHighHalfWrite 0x0142 7) up) := ⟨rfl, rfl⟩

/-- A traverse under way with an edge waiting: valid positions and both drives running after the step as well. -/
def edgeWaits : State := { scanning 500 with pending := [.quadratureEdge .upper .forward] }

theorem witness_NoDriveRunsWhereForbidden : DriveInv edgeWaits ∧
    step edgeWaits = .next (after (.quadratureEdge .upper .forward) (scanning 500)) ∧
    (after (.quadratureEdge .upper .forward) (scanning 500)).car.valid = true ∧
    (after (.quadratureEdge .upper .forward) (scanning 500)).pins.run = ⟨true, true⟩ := by
  refine ⟨?_, rfl, by decide, by decide⟩
  constructor
  · decide
  · decide
  · decide
  · decide
  · intro m h1 h2
    simp only [edgeWaits, scanning, driveLines, Option.some.injEq] at h1
    subst h1
    exact absurd h2 (by decide)
  · decide +revert
  · decide
  · decide
  · intro b; cases b <;> rfl

/-! ### Resets, register window, ports -/

theorem witness_PinResetValues : exec (.softReset 0x8000) (scanning 500) = .next (after (.softReset 0x8000) (scanning 500)) := rfl

/-- The start-up clear at a word. -/
def clearing (n : WordIdx) : State := { State.reset with phase := .clearing n }

-- Held, not held, clearing at the first and the last word, and not clearing; then the ports during it, no transfer in progress.
theorem witness_StartUpClear : (Settled State.reset ∧ State.reset.mem.wf = true ∧ State.reset.phase = .held) ∧
    (Settled up ∧ up.mem.wf = true ∧ up.phase ≠ .held ∧ ∀ n, up.phase ≠ .clearing n) ∧
    (Settled (clearing 0) ∧ (clearing 0).mem.wf = true ∧ (clearing 0).phase = .clearing 0) ∧
    (Settled (clearing 16383) ∧ (clearing 16383).phase = .clearing 16383) ∧ (clearing 9).portB.transfer = none :=
  ⟨⟨rfl, rfl, rfl⟩, ⟨rfl, rfl, by decide, nofun⟩, ⟨rfl, rfl, rfl⟩, ⟨rfl, rfl⟩, rfl⟩

/-- Three cards in flight: one answered at once, one with nothing decided, one a long order whose ending event has come. -/
def twoCards : State :=
  { up with ord := { up.ord with
    inFlight := [⟨3, 3, .carriage⟩, ⟨4, 4, .carriage⟩, ⟨6, 5, .carriage⟩]
    answers := [answerOf 3 .ok 9, endedOf 6 .ok 400] } }

-- Cards with no answer given at once, a card with one, a byte outside every answer's words; a publication at a word and at READY.
theorem witness_SoftResetPublication :
    ∀ n ∈ [1, 2431, 2432], let s := { up with prof := { up.prof with publication := some ⟨true, publicationCopy
        (closedScan (.aborted .stop) (openRecord .forward) 0 0) up, n⟩ } }
      s.phase = .running ∧ s.mem.wf = true ∧ ((after (.softReset 0x8000) s).prof.lastPublished = 7 ↔ n = 2432) := by decide

theorem witness_SoftResetAnswersEveryCard : twoCards.phase = .running ∧ twoCards.mem.wf = true ∧
    (∀ c ∈ [(⟨4, 4, .carriage⟩ : InFlight), ⟨6, 5, .carriage⟩], c ∈ twoCards.ord.inFlight ∧
      ∀ a ∈ twoCards.ord.answers, a.slot = c.slot → a.atOnce = false) ∧
    (⟨3, 3, .carriage⟩ ∈ twoCards.ord.inFlight ∧
      (twoCards.ord.answers.find? fun b => b.slot == 3 && b.atOnce) = some (answerOf 3 .ok 9)) ∧
    (∀ c ∈ twoCards.ord.inFlight, ∀ n, n = 0 ∨ n = 14 ∨ n = 15 → ¬inWord (cardWord c.slot n) 0) := by
  refine ⟨rfl, rfl, by decide, by decide, ?_⟩
  intro c hc n hn
  simp only [twoCards, List.mem_cons, List.not_mem_nil, or_false] at hc
  rcases hc with rfl | rfl | rfl <;> rcases hn with rfl | rfl | rfl <;> (unfold inWord; decide)

-- The link idles; the sheet is ON; the ACCESS entry disabled, with no condition, with one and no holdoff, with one and a holdoff.
-- The export link idle, in a frame, and between two frames, enabled and not.
theorem witness_SoftResetOfEveryBlock : (scanning 500).phase = .running ∧ (scanning 500).exp.sending = none ∧
    (sending 1 (some 5)).exp.sending.bind (·.wire) = some 5 ∧
    (after (.softReset 0x8000) (sending 1 (some 5))).exp.sending = some ⟨none, 0, 1, some 5⟩ ∧
    (let s := { sending 1 none with car := { up.car with frame := some frame } }
     let on : State := { s with exp := { s.exp with settings := { s.exp.settings with enable := true } } }
     s.phase = .running ∧ s.exp.sending.map (·.wire) = some none ∧ s.exp.settings.enable = false ∧ s.car.frame = some frame ∧
     on.exp.settings.enable = true ∧ (after (.softReset 0x8000) on).exp.cycle = 1235 ∧
     (after (.softReset 0x8000) s).exp.sending = none) ∧
    { scanning 500 with sheet := { up.sheet with state := .on } }.sheet.state ≠ .unknown ∧
    (∀ x ∈ [(false, true, 0), (true, false, 0), (true, true, 0), (true, true, 255)],
      let s := alarmed .access { ringing with enabled := x.1, condition := x.2.1, holdoff := x.2.2 }
      s.phase = .running ∧ (s.alarm.entry .access).enabled = x.1 ∧ (s.alarm.entry .access).condition = x.2.1 ∧
      (s.alarm.entry .access).holdoff = x.2.2) := by decide

-- A flag that a NOTICE write of other bits and every other command leave set.
theorem witness_NoticesFallOnlyToTheHost : exec (.noticeClear 0x0002) { up with notices := 3 } =
      .next (after (.noticeClear 0x0002) { up with notices := 3 }) ∧
    { up with notices := 3 }.notices &&& Notice.card.bit ≠ 0 ∧ Instr.noticeClear 0x0002 ≠ .pinReset ∧
    (∀ v, Instr.noticeClear 0x0002 = .noticeClear v → (v.setWidth 7 : BitVec 7) &&& Notice.card.bit = 0) := by
  refine ⟨rfl, by decide, by decide, ?_⟩
  intro v hv
  cases hv
  decide

/-- A card service running. -/
def served : State := after (.nudge true 0) up

theorem witness_RegisterWritesWhileServing : (Settled up ∧ up.phase = .running ∧ up.ord.service = none) ∧
    (Settled served ∧ served.phase = .running ∧ served.ord.service ≠ none) ∧
    { up with ord := { up.ord with queued := true } }.ord.queued = true ∧ up.ord.queued = false ∧
    up.ord.answers = [] ∧ twoCards.ord.answers ≠ [] :=
  ⟨⟨rfl, rfl, rfl⟩, ⟨rfl, rfl, by decide⟩, rfl, rfl, rfl, by decide⟩

-- A granted and a denied low half; a granted high half with its word latched, with another latched; a denied one.
theorem witness_PortAWritesThroughTheLatch : Serving up ∧
    permits up.guard .a .write 0x0100 = true ∧ permits up.guard .a .write 0x00FC = false ∧
    permits up.guard .a .write 0x0102 = true ∧ permits up.guard .a .write 0x00FE = false ∧
    (after (.portALowHalfWrite 0x0140 7) up).portA.latch = some ((0x0142 : Half).extractLsb' 2 14, 7) ∧
    ∀ low, up.portA.latch ≠ some ((0x0142 : Half).extractLsb' 2 14, low) :=
  ⟨serving_of (by decide), by decide, by decide, by decide, by decide, by decide, nofun⟩

/-- The uncovered policy DENY: addresses from 0x5C00 are denied to both ports. -/
def denying : State := { up with guard := { up.guard with deny := true } }

theorem witness_PortAReadsThroughTheCapture : Settled denying ∧ denying.phase = .running ∧
    permits denying.guard .a .read 0x5BFC = true ∧ permits denying.guard .a .read 0x5C00 = false ∧
    permits denying.guard .a .read 0x5BFE = true ∧ permits denying.guard .a .read 0x5C02 = false ∧
    { denying with portA := ⟨none, some ((0x5BFE : Half).extractLsb' 2 14, 9), 0⟩ }.portA.capture =
      some ((0x5BFE : Half).extractLsb' 2 14, 9) ∧
    ∀ v, denying.portA.capture ≠ some ((0x5BFE : Half).extractLsb' 2 14, v) :=
  ⟨rfl, rfl, by decide, by decide, by decide, by decide, rfl, nofun⟩

theorem witness_CaptureOutlivesEveryWriter : exec .flashHalf up = .next (after .flashHalf up) ∧
    (∀ a, Instr.flashHalf ≠ .portALowHalfRead a) ∧ (∀ v, Instr.flashHalf ≠ .softReset v) ∧ Instr.flashHalf ≠ .pinReset :=
  ⟨rfl, nofun, nofun, nofun⟩

theorem up_idle : Idle up := fun r => by cases r <;> rfl

-- A byte changed by a port A high half and a byte changed by a port B word.
theorem witness_PortWritesOnlyWhereGranted : Serving up ∧ Idle up ∧ up.portB.transfer = none ∧
    (exec (.portAHighHalfWrite 0x0142 5) up = .next (after (.portAHighHalfWrite 0x0142 5) up) ∧
      (after (.portAHighHalfWrite 0x0142 5) up).mem.read 0x0142 ≠ up.mem.read 0x0142) ∧
    (exec (.portBWrite [4, 4, 0, 0, 0, 5]) up = .next (after (.portBWrite [4, 4, 0, 0, 0, 5]) up) ∧
      (after (.portBWrite [4, 4, 0, 0, 0, 5]) up).mem.read 0x0404 ≠ up.mem.read 0x0404) :=
  ⟨serving_of (by decide), up_idle, rfl, ⟨rfl, by decide⟩, ⟨rfl, by decide⟩⟩

/-- A port B transfer past its address bytes. -/
def shifting (k : TransferKind) (addr : Half) (s : State) : State :=
  { s with portB := ⟨some ⟨k, [addr.extractLsb' 8 8, addr.extractLsb' 0 8], addr, 0, 0⟩, [0, 0, 0]⟩ }

-- No transfer in progress; a granted word, at the last address as well; a denied word.
theorem witness_PortBReadShiftsWordsOut : (Settled denying ∧ denying.phase = .running ∧ denying.portB.transfer = none) ∧
    (Settled (shifting .read 0x5BFC denying) ∧ permits denying.guard .b .read 0x5BFC = true) ∧
    (Settled (shifting .read 0xFFFC up) ∧ permits up.guard .b .read 0xFFFC = true) ∧
    (Settled (shifting .read 0x5C00 denying) ∧ permits denying.guard .b .read 0x5C00 = false) :=
  ⟨⟨rfl, rfl, rfl⟩, ⟨rfl, by decide⟩, ⟨rfl, by decide⟩, ⟨rfl, by decide⟩⟩

theorem witness_PortBWritesAndOtherTransfers : (Serving up ∧ up.portB.transfer = none) ∧
    (Serving (shifting .write 0x0400 up) ∧ permits up.guard .b .write 0x0400 = true) ∧
    (Serving (shifting .write 0x03FC up) ∧ permits up.guard .b .write 0x03FC = false) :=
  ⟨⟨serving_of (by decide), rfl⟩, ⟨serving_of (by decide), by decide⟩, ⟨serving_of (by decide), by decide⟩⟩

/-! ### The arbiter and the order unit -/

/-- The order unit has an answer to write and the refresh a word; the refresh was granted last. -/
def contested : State :=
  { up with refresh := some ⟨[], 5⟩, ord := { up.ord with answers := [answerOf 3 .ok 9] } }

theorem witness_ArbiterGrantsInRingOrder : (Settled up ∧ up.phase = .running ∧ Idle up) ∧
    (Settled contested ∧ contested.phase = .running ∧ waits contested .orderUnit = true ∧
      ∀ q, waits contested q = true → ringDistance contested.arbLast .orderUnit ≤ ringDistance contested.arbLast q) := by
  refine ⟨⟨rfl, rfl, up_idle⟩, rfl, rfl, by decide, ?_⟩
  intro q hq
  cases q <;> first | decide | exact absurd hq (by decide)

/-- A refresh at its word `n`. -/
def refreshing (n : Nat) : State := { up with refresh := some ⟨List.replicate 64 7, n⟩ }

/-- A publication at its word `n`. -/
def publishing (n : Nat) : State := { up with prof := { up.prof with publication := some ⟨true, copy, n⟩ } }

/-- A page being chosen: what page 0 read as, and the memory. -/
def choosing (page0 : Option Bool) (m : Memory) : State :=
  { up with mem := m, prof := { up.prof with choice := some ⟨copy, page0⟩ } }

-- Word 63 and word 0 of a refresh; word 2431 and READY of a publication; page 0 to read, both pages free, one free, none free; a page
-- of edges, streaks and a bin.
theorem witness_InternalWritersWriteInOrder : (Serving (refreshing 63) ∧ OnlyWaits (refreshing 63) .statusRefresh) ∧
    (Serving (refreshing 64) ∧ OnlyWaits (refreshing 64) .statusRefresh) ∧
    (Serving (publishing 2431) ∧ OnlyWaits (publishing 2431) .profileEngine) ∧
    (Serving (publishing 2432) ∧ OnlyWaits (publishing 2432) .profileEngine) ∧
    (∀ x ∈ [(none, []), (some true, []), (some false, []), (some true, [(13824, (1 : Byte))]), (some false, [(13824, 1)])],
      servesB (choosing x.1 x.2) = true ∧ waits (choosing x.1 x.2) .profileEngine = true) ∧
    (choosing (some true) []).mem.readWord (pageWordIdx true 0) = 0 ∧
    (choosing (some true) [(13824, 1)]).mem.readWord (pageWordIdx true 0) ≠ 0 ∧
    ((closedScan .complete exampleScan 8 0).edges = some (1, 6) ∧ (closedScan .complete exampleScan 8 0).bins.length = 8) :=
  ⟨⟨serving_of (by decide), onlyWaits_of (by decide)⟩, ⟨serving_of (by decide), onlyWaits_of (by decide)⟩,
    ⟨serving_of (by decide), onlyWaits_of (by decide)⟩, ⟨serving_of (by decide), onlyWaits_of (by decide)⟩, by decide, by decide,
    by decide, by decide⟩

/-- An answer at a write. -/
def answering (n : Nat) : State := { twoCards with ord := { twoCards.ord with stage := n } }

theorem witness_AnswersAreThreeWrites : (Serving (answering 0) ∧ OnlyWaits (answering 0) .orderUnit) ∧
    (Serving (answering 1) ∧ OnlyWaits (answering 1) .orderUnit) ∧ (Serving (answering 2) ∧ OnlyWaits (answering 2) .orderUnit) ∧
    (answering 2).ord.answers = answerOf 3 .ok 9 :: [endedOf 6 .ok 400] ∧
    (let s := { answering 2 with car := { up.car with long := some ⟨.stopEnd, 3⟩, newer := some ⟨.stopNow, 6⟩ } }
     Serving s ∧ OnlyWaits s .orderUnit ∧ (after .arbiterGrant s).car.long = some ⟨.stopNow, 6⟩) :=
  ⟨⟨serving_of (by decide), onlyWaits_of (by decide)⟩, ⟨serving_of (by decide), onlyWaits_of (by decide)⟩,
    ⟨serving_of (by decide), onlyWaits_of (by decide)⟩, rfl, serving_of (by decide), onlyWaits_of (by decide), by decide⟩

/-- The service reads the card of a slot, words read so far given; slot 5 is left. -/
def reading5 (slot : Slot) (words : List Word) : State :=
  { up with ord := { up.ord with service := some ⟨[5], some ⟨slot, words⟩⟩ } }

/-- The service examines slot 3, whose state word is given; slot 5 is left. -/
def examining (w : Byte) : State :=
  { up with mem := if w = 0 then [] else [(448, w)], ord := { up.ord with service := some ⟨[3, 5], none⟩ } }

-- POSTED, another value, and a card with twelve words read.
theorem witness_ServiceExaminesAndReadsCards :
    (Serving (examining 1) ∧ OnlyWaits (examining 1) .orderUnit ∧ (examining 1).mem.readWord (cardWord 3 0) = 1) ∧
    (Serving (examining 2) ∧ OnlyWaits (examining 2) .orderUnit ∧ (examining 2).mem.readWord (cardWord 3 0) ≠ 1) ∧
    (Serving (reading5 3 (List.replicate 12 0)) ∧ OnlyWaits (reading5 3 (List.replicate 12 0)) .orderUnit) :=
  ⟨⟨serving_of (by decide), onlyWaits_of (by decide), by decide⟩, ⟨serving_of (by decide), onlyWaits_of (by decide), by decide⟩,
    ⟨serving_of (by decide), onlyWaits_of (by decide)⟩⟩

theorem witness_TakenAtAGrantAsByCommand :
    let s := reading5 3 (orderWords 7 (.scan 255))
    Settled s ∧ s.phase = .running ∧ OnlyWaits s .orderUnit ∧ s.ord.answers = [] ∧
    (orderWords 7 (.scan 255)).length = 13 ∧ inFlight s 3 = false ∧ cardOrder (orderWords 7 (.scan 255)) = some (.scan 255) ∧
    (∀ m, Order.scan 255 = .stop m → m ≤ 1) ∧ (answering 0).ord.answers ≠ [] ∧ Settled (answering 0) ∧
    (ringDistance .orderUnit .statusRefresh < ringDistance .orderUnit .orderUnit) ∧ inFlight twoCards 3 = true :=
  ⟨rfl, rfl, onlyWaits_of (by decide), rfl, by decide, by decide, by decide, nofun, by decide, rfl, by decide, by decide⟩

theorem witness_CardsDecodeToTheirOrders : WellFormed (orderCommand 15 (.setCal 65535 ⟨65535, -32768, 0, 0, 0⟩)) ∧
    (∀ m, Order.setCal 65535 ⟨65535, -32768, 0, 0, 0⟩ = .stop m → fitsHalf m = true) := ⟨by decide, nofun⟩

-- An order not allowed in slot 12, one out of range in slot 11 and those at its ends, and a card of no order in each.
theorem witness_ChecksRefuseBeforeTheOwner : CardFree up 12 ∧ CardFree up 11 ∧
    (decide (12 ≤ (12 : Slot).val) && !(orderCode .home == 0x18 || orderCode .home == 0x29 || orderCode .home == 0x2A)) = true ∧
    (decide (12 ≤ (11 : Slot).val) && !(orderCode (.scan 256) == 0x18)) = false ∧ ¬AdmittedByTable (.scan 256) ∧
    AdmittedByTable (.scan 255) ∧ AdmittedByTable (.setFrame frame) ∧ ¬AdmittedByTable (.setFrame { frame with nbins := 7 }) ∧
    (Serving (reading5 11 (List.replicate 13 0)) ∧ OnlyWaits (reading5 11 (List.replicate 13 0)) .orderUnit ∧
      cardOrder (List.replicate 13 0) = none) ∧
    (let words := orderWords 7 (.stop 2)
     Serving (reading5 11 words) ∧ OnlyWaits (reading5 11 words) .orderUnit ∧ words.length = 13 ∧ cardOrder words = some (.stop 2) ∧
     (after .arbiterGrant (reading5 11 words)).ord.answers = [answerOf 11 .badParam 0]) ∧
    (Serving (reading5 12 (List.replicate 13 0)) ∧ OnlyWaits (reading5 12 (List.replicate 13 0)) .orderUnit) :=
  ⟨cardFree_of (by decide), cardFree_of (by decide), by decide, by decide, by simp [AdmittedByTable], by simp [AdmittedByTable],
    by simp [AdmittedByTable, frame], by simp [AdmittedByTable, frame],
    ⟨serving_of (by decide), onlyWaits_of (by decide), by decide⟩,
    ⟨serving_of (by decide), onlyWaits_of (by decide), by decide, by decide, by decide⟩,
    ⟨serving_of (by decide), onlyWaits_of (by decide)⟩⟩

/-! ### Time, samples, computations -/

/-- PROBING at the hold, the sheet OFF, the tick's mean at sheet_on_threshold, the run one short of sheet_on_ticks. -/
def probing : State :=
  { standing (.probing true) with
    sheet := { up.sheet with state := .off, onRun := 49 }
    eng := { up.eng with pointAcc := ⟨⟨1500, 1⟩, ⟨0, 0⟩, ⟨0, 0⟩⟩ } }

-- A mean that looks like sheet and one that does not; a link that idles, disabled and enabled, and one that sends; no service
-- running and one running.
theorem witness_ServiceTickActs : (Settled probing ∧ probing.phase = .running ∧
      (probing.sheet.state = .off ∧ probing.car.traverse = .probing true ∧ probing.sheet.debounce = 0 ∧
        (after (.serviceTick false tickLast) probing).eng.point.mass = some 1500 ∧
        probing.sheet.settings.sheetOnThreshold ≤ 1500)) ∧
    (Settled up ∧ up.sheet.state ≠ .off ∧ up.exp.sending = none ∧ up.exp.settings.enable = false ∧ up.ord.service = none) ∧
    (let s := { parked with exp := { up.exp with next := some ⟨true, ⟨true, false, false, false⟩, 0⟩ } }
     Settled s ∧ s.exp.sending = none ∧ s.car.frame = some frame) ∧
    (Settled (sending 0 none) ∧ (sending 0 none).exp.sending ≠ none) ∧ (Settled served ∧ served.ord.service ≠ none) :=
  ⟨⟨rfl, rfl, by decide⟩, ⟨rfl, by decide⟩, ⟨rfl, rfl, rfl⟩, ⟨rfl, by decide⟩, ⟨rfl, by decide⟩⟩

-- A holdoff at its last tick and one run out already; a move one tick short of its timeout, nothing taken early or the timeout.
theorem witness_ServiceTickEnds :
    (∀ n : Fin 2,
      let s := alarmed .travel { ringing with state := .holdoff, remaining := n.val }
      driveLines s = s ∧ (s.alarm.entry .travel).state = .holdoff ∧ (s.alarm.entry .travel).major = true ∧
      (after (.serviceTick false tickLast) s).alarm.entry .travel = ringing) ∧
    (let s := scanning 500
     let m := { move (.traverse .drive) 3000 .forward with timer := 2999 }
     let z := { s with car := { s.car with move := some m } }
     driveLines z = z ∧ frame.moveTimeout ≤ 2999 + 1 ∧ z.car.traverse ≠ .faulted ∧ tickLast.early = [] ∧
      (after (.serviceTick false tickLast) z).car.traverse = .scanning .forward ∧
      (after (.serviceTick false { tickLast with early := [.moveTimeout] }) z).car.cause = some .travelTimeout) := by
  decide

-- Events taken early: a dwell that ends, the third active tick of BRK_IN, a sheet-on; and a tick with none due.
theorem witness_ServiceTickEarly :
    (let z := { dwellOver with std := { dwellOver.std with dwell := some ⟨20, 100, 19, ⟨⟨246130, 200⟩, ⟨216000, 200⟩, ⟨64070, 64⟩⟩⟩ } }
     driveLines z = z ∧ z.car.plan = .empty ∧ z.car.nextPlan = none ∧
      (after (.serviceTick false { tickLast with early := [.dwellEnd] }) z).car.traverse = .parked .drive) ∧
    (let z := { up with sheet := { up.sheet with debounce := 2 } }
     driveLines z = z ∧ z.sheet.state ≠ .off ∧ (after (.serviceTick true tickLast) z).sheet.externalDue = true ∧
      (after (.serviceTick true { tickLast with early := [.externalBreak] }) z).sheet.state = .off) ∧
    ((after (.serviceTick false tickLast) probing).sheet.onDue = true ∧ probing.car.plan = .empty ∧
      (after (.serviceTick false { tickLast with early := [.probeSheetOn] }) probing).sheet.state = .on) ∧
    (up.sheet.externalDue = false ∧ up.sheet.onDue = false ∧ up.car.move = none ∧ up.std.dwell = none ∧
      (after (.serviceTick false tickLast) up).sheet.externalDue = false ∧
      (after (.serviceTick false tickLast) up).sheet.onDue = false) := by decide

theorem witness_StrobeCapturesAndBeginsTransfers : Settled up ∧ up.phase = .running := ⟨rfl, rfl⟩

/-- Both receivers clock in strobe 1234, holding `n` frames already. -/
def receiving (n : Nat) : State :=
  { up with links := .both { Receiver.reset with transfer := some 1234, slots := List.replicate n ⟨1, 0, 0, 0⟩ } }

-- No transfer; both slots full and one free; a bad sum; a wrong count; a good frame.
-- HEAD_LINK appears at the eighth bad frame and goes at a good one, from each entry state that can meet it.
theorem witness_TransfersGiveHeadLink :
    let s (e : AlarmState) (present : Bool) (holdoff bad : Nat) : State :=
      { alarmed .headLink { ringing with state := e, condition := present, holdoff := holdoff, latching := true } with
        links := ⟨{ Receiver.reset with transfer := some 1234, bad := bad }, Receiver.reset⟩ }
    (∀ x ∈ [(AlarmState.normal, 0, AlarmState.activeUnacked), (.normal, 3, .holdoff), (.returnedUnacked, 3, .activeUnacked)],
      driveLines (s x.1 false x.2.1 7) = s x.1 false x.2.1 7 ∧
      ((after (.headLinkTransferComplete (.upper 0 0 0 0 0 0 0)) (s x.1 false x.2.1 7)).alarm.entry .headLink).state = x.2.2) ∧
    (∀ x ∈ [(AlarmState.holdoff, AlarmState.normal), (.activeUnacked, .returnedUnacked), (.activeAcked, .normal)],
      driveLines (s x.1 true 3 8) = s x.1 true 3 8 ∧
      ((after (.headLinkTransferComplete (.upper 0xC0 0x25 0x9E 0x0C 0x4E 0xD2 0x50)) (s x.1 true 3 8)).alarm.entry .headLink).state =
        x.2) := by decide

theorem witness_TransfersAreJudged : (Settled up ∧ up.phase = .running ∧ up.links.upper.transfer = none) ∧
    (Settled (receiving 2) ∧ (receiving 2).links.upper.transfer = some 1234 ∧ 2 ≤ (receiving 2).links.upper.slots.length) ∧
    (Settled (receiving 1) ∧ ¬2 ≤ (receiving 1).links.upper.slots.length ∧
      (frameBytes (.upper 0 0 0 0 0 0 0)).foldl (· + ·) 0 ≠ 0xFF ∧
      (frameBytes (.lower 0 0 0 0xD3 0x2C)).foldl (· + ·) 0 = 0xFF ∧ frameCount (.lower 0 0 0 0xD3 0x2C) ≠ (1234 : Word).setWidth 8 ∧
      (frameBytes (.upper 0xC0 0x25 0x9E 0x0C 0x4E 0xD2 0x50)).foldl (· + ·) 0 = 0xFF ∧
      frameCount (.upper 0xC0 0x25 0x9E 0x0C 0x4E 0xD2 0x50) = (1234 : Word).setWidth 8) :=
  ⟨⟨rfl, rfl, rfl⟩, ⟨rfl, rfl, by decide⟩, ⟨rfl, by decide⟩⟩

/-- The capture of strobe 1 at a position. -/
def strobe1 (u : Nat) (d : Option Direction) : Capture := ⟨1, u, 0, d⟩

/-- A watched position at the first place of the window, the threshold just above the reading or at it. -/
def watched (threshold : Nat) (s : State) : State :=
  { delivered 0 s with sheet := { s.sheet with settings := { s.sheet.settings with breakThreshold := threshold } } }

-- The traverse states a record is routed by; inside and outside the window; a reading at the threshold and one below it; mass absent.
theorem witness_RecordsAreFormedAndRouted :
    (∀ s ∈ [standing (.standardizing .drive), standing (.singlePoint 1000), standing (.probing true), standing (.probing false),
      standing .halted], driveLines s = s ∧ s.phase = .running ∧ nextCapture (delivered 0 s) = some (strobe1 1000 none)) ∧
    (let s := { standing (.singlePoint 1200) with car := placed (.singlePoint 1200) 1200 1200 }
     nextCapture (watched 9630 s) = some (strobe1 1200 none) ∧ nextCapture (watched 9631 s) = some (strobe1 1200 none) ∧
      s.prof.edges = none ∧ frame.bin0Pos = 1200 ∧ frame.bin0Pos + frame.nbins * frame.binW - 1 = 2479 ∧
      insideWindow s 1200 = true ∧ insideWindow s 1199 = false ∧
      (let z := { s with prof := { s.prof with edges := some ⟨1, 6, 9⟩ } }
       insideWindow z 1359 = false ∧ insideWindow z 1360 = true ∧ insideWindow z 2319 = true ∧ insideWindow z 2320 = false) ∧
      convert s.eng.cal.mass 9630 = 9630) ∧
    (let s := delivered 0 (standing .halted)
     nextCapture { s with links := ⟨{ s.links.upper with slots := [] }, s.links.lower⟩ } = some (strobe1 1000 none) ∧
      nextCapture { s with links := ⟨{ s.links.upper with lossLimit := some 1 }, s.links.lower⟩ } =
        some (strobe1 1000 none)) ∧
    (let s := delivered 0 (standing .halted)
     nextCapture { s with eng := { s.eng with forming := some ⟨1, 0, 0, none, ⟨none, none, none⟩, ⟨none, none, none⟩, false⟩ } } = none ∧
      nextCapture { s with sheet := { s.sheet with sampleDue := true } } = none ∧
      nextCapture { s with links := ⟨{ s.links.upper with settled := 0 }, s.links.lower⟩ } = none ∧
      nextCapture { s with std := { s.std with dwell := some ⟨20, 100, 20, Acc.zero3⟩ } } = none ∧
      nextCapture { s with eng := { s.eng with captures := [] } } = none) := by
  refine ⟨?_, by decide, by decide, by decide⟩
  intro s hs
  simp only [List.mem_cons, List.not_mem_nil, or_false] at hs
  rcases hs with rfl | rfl | rfl | rfl | rfl <;> decide

/-- SCANNING with a record of strobe 1 to form, the open bin given, the loss limit at it. -/
def binning (u : Nat) (b : Option Nat) : State :=
  let s := scanning u
  let d := delivered 0 { s with eng := { s.eng with openBin := b } }
  { d with links := ⟨{ d.links.upper with lossLimit := some 1 }, d.links.lower⟩ }

-- The first and the last place of the span with no bin open; its own bin; a bin ahead; a bin behind; a place outside. Each record
-- carries the loss mark.
theorem witness_RecordsEnterTheirBins :
    (∀ x ∈ [(1200, none), (2479, none), (1200, some 0), (1360, some 0), (1359, some 1), (1199, some 0), (2480, some 7)],
      nextCapture (binning x.1 x.2) = some (strobe1 x.1 (some .forward)) ∧ (binning x.1 x.2).car.traverse.isScanning = true ∧
      driveLines (binning x.1 x.2) = binning x.1 x.2 ∧ (binning x.1 x.2).phase = .running ∧
      (binning x.1 x.2).prof.openScan = some (openRecord .forward) ∧ (binning x.1 x.2).eng.accs.length = 8) ∧
    0 < (openRecord .forward).map.binW ∧ (openRecord .forward).map.nbins = 8 := by
  refine ⟨?_, by decide, rfl⟩
  intro x hx
  simp only [List.mem_cons, List.not_mem_nil, or_false] at hx
  rcases hx with rfl | rfl | rfl | rfl | rfl | rfl | rfl <;> decide

theorem witness_ConversionAndDerivedQuantities : 65535 ≤ 65535 ∧ CalRecord.reset.zero ≤ 65535 ∧
    CalRecord.reset.values.gain ≤ 65535 ∧ 0 < 1 ∧ deriveMoist (some 1) (some 2) = some 10000 := by decide

-- Edges found and not; bins on both sides of them; a bin that qualifies; a spread.
theorem witness_ClosesFindEdgesAndStatistics :
    let c := closedScan .complete exampleScan 8 0
    c.edges = some (1, 6) ∧ (c.bins[0]?).isSome = true ∧ (c.bins[7]?).isSome = true ∧ c.mdAverage.mass = some 4493 ∧
    c.spread.mass = some 60 ∧ ((closedScan (.aborted .stop) exampleScan 8 0).bins[7]?).isSome = true ∧
    (closedScan .complete (openRecord .forward) 8 0).edges = none := by decide

theorem witness_FiltersChangeOnlyAtClosesAndResets : exec (.setFrame 2 frame) up = .next (after (.setFrame 2 frame) up) ∧
    (after (.setFrame 2 frame) up).prof.table ≠ up.prof.table ∧
    (¬∃ bs, Instr.setFrame 2 frame = .portBRead bs ∨ Instr.setFrame 2 frame = .portBWrite bs) ∧
    (after (.softReset 0x8000) (after (.setFrame 2 frame) { up with prof := { up.prof with mdf := ⟨5, 0, 0, 0⟩ } })).prof.mdf =
      ⟨0, 0, 0, 0⟩ := ⟨rfl, by decide, nofun, by decide⟩

theorem witness_FilterStepsNeverOvershoot : 1 ≤ 1 ∧ 1 ≤ 16 ∧ 16 ≤ 16 ∧ ((17 : Int) - 10).natAbs * 1 < 8 := by decide

/-! ### The sheet -/

/-- A state with both breaks due and the sheet in a state. -/
def breakDue (x : SheetState) (s : State) : State :=
  { s with sheet := { s.sheet with state := x, sampleDue := true, externalDue := true } }

-- Not due; due while OFF; due outside SCANNING and SINGLE_POINT; due in both, with and without a STOP in flight.
theorem witness_BreaksTurnTheSheetOffAndSendHome :
    (Settled parked ∧ parked.phase = .running ∧ parked.sheet.sampleDue = false ∧ parked.sheet.externalDue = false) ∧
    (∀ x, Settled (breakDue x parked) ∧ (breakDue x parked).eng.forming = none ∧ parked.car.traverse.watchesSheet = false) ∧
    (∀ s ∈ [scanning 1700, standing (.singlePoint 1000), after (.stopEnd 4) (scanning 1700)],
      driveLines (breakDue .on s) = breakDue .on s ∧ s.phase = .running ∧ s.car.traverse.watchesSheet = true ∧ s.car.frame = some frame ∧
      s.frameOk = true ∧ s.inputs = up.inputs ∧ skew s = 0 ∧ s.car.axis.upper.pos ≠ 400 ∧ s.car.axis.upper.pos ≠ 3000) := by
  refine ⟨⟨rfl, rfl, rfl, rfl⟩, fun x => ⟨by cases x <;> rfl, rfl, rfl⟩, ?_⟩
  intro s hs
  simp only [List.mem_cons, List.not_mem_nil, or_false] at hs
  rcases hs with rfl | rfl | rfl <;> decide

-- The park decision at once where both stand at the nearest park, and a start that fails.
theorem witness_BreaksDecide :
    (driveLines (breakDue .on (scanning 400)) = breakDue .on (scanning 400) ∧ atOrPast .forward 400 400 = true ∧
      (after .externalBreak (breakDue .on (scanning 400))).car.traverse = .probing false) ∧
    (let s := { breakDue .on (scanning 1700) with frameOk := false }
     driveLines s = s ∧ StartFails s .interlock ∧ (after .externalBreak s).car.traverse = .faulted) :=
  ⟨by decide, by decide, ⟨fun _ => rfl, nofun, nofun, nofun, nofun⟩, by decide⟩

/-- The move start checks as they compute. -/
theorem startChecks_of {s : State} (h1 : s.frameOk = true) (h2 : s.inputs = up.inputs)
    (h3 : ∀ f, s.car.frame = some f → (skew s).natAbs ≤ f.skewFault) : StartChecks s :=
  ⟨h1, by rw [h2]; decide, by rw [h2]; decide, h3⟩

theorem scanning_checks : StartChecks (scanning 1700) :=
  startChecks_of rfl (by decide) (fun f h => by cases h; decide)

/-- The sheet OFF with a sheet-on due and the break line in a state. -/
def sheetOff (n : Nat) (s : State) : State := { s with sheet := { s.sheet with state := .off, onDue := true, debounce := n } }

theorem witness_SheetOnReseedsAndReturns :
    (CardFree (sheetOff 0 up) 9 ∧ Passes 9 .resume ∧ (∀ h, up.car.traverse ≠ .probing h) ∧ (∀ x, up.car.traverse ≠ .parked x)) ∧
    (CardFree (sheetOff 1 up) 9 ∧ (sheetOff 1 up).sheet.debounce ≠ 0) ∧
    (CardFree up 9 ∧ ¬(up.sheet.onDue = true ∧ up.sheet.state = .off)) ∧
    (let s := sheetOff 0 (standing (.probing false))
     Settled s ∧ s.phase = .running ∧ s.car.frame = some frame ∧ StartChecks s ∧ s.car.axis.upper.pos ≠ 400) ∧
    (let s := sheetOff 0 parked
     Settled s ∧ s.car.move = none ∧ s.car.nextPlan = none ∧ s.car.plan = .empty ∧ s.car.long = none ∧
      s.car.axis.upper.pos < frame.parkDrive) :=
  ⟨⟨cardFree_of (by decide), rfl, nofun, nofun⟩, ⟨cardFree_of (by decide), by decide⟩, ⟨cardFree_of (by decide), by decide⟩,
    ⟨rfl, rfl, rfl, startChecks_of rfl rfl (fun f h => by cases h; decide), by decide⟩, ⟨rfl, rfl, rfl, rfl, rfl, by decide⟩⟩

/-- PARKED with a plan, and a STOP held or not. -/
def planned (p : Plan) (l : Option LongOrder) : State := { parked with car := { parked.car with plan := p, long := l } }

-- R141, R164: a RESUME silences the horn with SHEET_BREAK and sounds it anew with TRAVEL, in one command: HORN goes high.
theorem test_resume_sounds_the_horn_anew :
    let s := sheetOff 0 { planned .continuous none with frameOk := false }
    let u := driveLines { s with alarm := s.alarm.setEntry .sheetBreak { ringing with latching := false } }
    let low := after .hornHalfPeriod u
    low.alarm.sounding = true ∧ low.pins.horn = false ∧ (after (.resume 9) low).car.cause = some .interlock ∧
    ((after (.resume 9) low).alarm.entry .sheetBreak).state = .normal ∧ (after (.resume 9) low).pins.horn = true := by decide

-- RESUME and a sheet-on in PROBING, a start that passes and one that fails; in PARKED a held STOP, a plan that starts a traverse and one
-- that ends, a start that fails.
theorem witness_SheetOnDecides :
    (∀ s ∈ [sheetOff 0 (standing (.probing false)), sheetOff 0 (standing (.probing true)),
        sheetOff 0 { standing (.probing true) with frameOk := false }, sheetOff 0 (planned (.remaining 1) none),
        sheetOff 0 { up with car := placed (.probing true) 400 400 },
        sheetOff 0 (planned .continuous none), sheetOff 0 (planned .empty (some ⟨.stopEnd, 5⟩)),
        sheetOff 0 { planned (.remaining 1) none with frameOk := false }],
      freeB s 9 = true ∧ s.sheet.state = .off ∧ s.sheet.onDue = true ∧ s.sheet.debounce = 0 ∧ s.car.frame = some frame ∧
      s.car.axis.upper.pos < frame.parkDrive) ∧
    (after (.resume 9) (sheetOff 0 (standing (.probing true)))).car.traverse = .positioning .returning ∧
    (after (.resume 9) (sheetOff 0 (planned (.remaining 1) none))).car.traverse = .scanning .forward ∧
    (after (.resume 9) (sheetOff 0 { planned (.remaining 1) none with frameOk := false })).car.cause = some .interlock := by
  refine ⟨?_, by decide, by decide, by decide⟩
  intro s hs
  simp only [List.mem_cons, List.not_mem_nil, or_false] at hs
  rcases hs with rfl | rfl | rfl | rfl | rfl | rfl | rfl | rfl <;> decide

/-! ### The frame -/

/-- SCANNING with axes given, the move's other fields given. -/
def under (u l : Axis) (m : Move) : State :=
  let s := scanning 1000
  driveLines { s with car := { s.car with axis := ⟨u, l⟩, move := some m } }

-- Edges that do and do not move the count, at both ends of the range; an edge beyond skew_fault by one.
theorem witness_EdgesCountAndAlignmentIsChecked :
    (∀ a ∈ [(⟨0, -3⟩ : Axis), ⟨0, 3⟩, ⟨65535, 3⟩, ⟨65535, -3⟩],
      let s := { up with car := { placed .halted 0 0 with axis := ⟨a, ⟨0, 0⟩⟩ } }
      driveLines s = s ∧ s.phase ≠ .held ∧ -4 < a.edges ∧ a.edges < 4 ∧ a.pos ≤ 65535) ∧
    (let s := under ⟨1200, 3⟩ ⟨1000, 0⟩ (move (.traverse .drive) 3000 .forward)
     driveLines s = s ∧ s.phase ≠ .held ∧ s.car.frame = some frame ∧ s.car.valid = true ∧ s.car.traverse ≠ .halted ∧
      s.car.traverse ≠ .faulted ∧ ((s.car.axis.get .upper).edge 4 .forward).pos ≠ 1200 ∧
      frame.skewFault < (((s.car.axis.get .upper).edge 4 .forward).pos : Int) - 1000) := by
  refine ⟨?_, by decide⟩
  intro a ha
  simp only [List.mem_cons, List.not_mem_nil, or_false] at ha
  rcases ha with rfl | rfl | rfl | rfl <;> decide

-- Skew 41 holds, 40 and 21 do not, 20 releases; a release with DRV_OK low; an arrival of one carriage.
theorem witness_PositionEventsArriveAndHold :
    (∀ u ∈ [1040, 1039, 1020, 1019],
      let s := under ⟨u, 3⟩ ⟨1000, 0⟩ (move (.traverse .drive) 3000 .forward)
      driveLines s = s ∧ s.phase ≠ .held ∧ s.car.frame = some frame ∧ s.car.valid = true ∧ s.car.traverse = .scanning .forward ∧
      ((s.car.axis.get .upper).edge 4 .forward).pos = u + 1) ∧
    (let s := under ⟨1019, 3⟩ ⟨1000, 0⟩ { move (.traverse .drive) 3000 .forward with held := ⟨true, false⟩ }
     let z := { s with inputs := { s.inputs with upper := { s.inputs.upper with drvOk := false } } }
     driveLines z = z ∧ z.car.move = some { move (.traverse .drive) 3000 .forward with held := ⟨true, false⟩ }) ∧
    (let s := under ⟨2999, 3⟩ ⟨2990, 0⟩ (move (.traverse .drive) 3000 .forward)
     driveLines s = s ∧ ((s.car.axis.get .upper).edge 4 .forward).pos = 3000) := by
  refine ⟨?_, by decide, by decide⟩
  intro a ha
  simp only [List.mem_cons, List.not_mem_nil, or_false] at ha
  rcases ha with rfl | rfl | rfl | rfl <;> decide

/-- The upper carriage one edge from the target, the lower arrived. -/
def lastEdge (v : Traverse) (p : Purpose) (target : Nat) : State :=
  driveLines { up with
    car := { placed v (target - 1) target with
      axis := ⟨⟨target - 1, 3⟩, ⟨target, 0⟩⟩, move := some { move p target .forward with arrived := ⟨false, true⟩ } }
    std := { up.std with due := true }
    prof := { up.prof with openScan := some (openRecord .forward) } }

theorem witness_ArrivalsEndMoves :
    (∀ x ∈ [(Traverse.positioning .point, Purpose.point, 2000), (.positioning .park, .park .drive, 3000),
        (.homing .parkHome, .parkHome, 400), (.probing false, .probe, 2000), (.scanning .forward, .traverse .drive, 3000)],
      let s := lastEdge x.1 x.2.1 x.2.2
      driveLines s = s ∧ s.phase ≠ .held ∧ s.car.frame = some frame ∧ s.car.valid = true ∧ s.car.traverse.stands = false ∧
      ((s.car.axis.get .upper).edge 4 .forward).pos = x.2.2 ∧ s.car.move.map (·.purpose) = some x.2.1 ∧
      s.car.move.map (·.arrived) = some ⟨false, true⟩) ∧
    (lastEdge (.scanning .forward) (.traverse .drive) 3000).prof.openScan = some (openRecord .forward) ∧
    (lastEdge (.scanning .forward) (.traverse .drive) 3000).std.due = true := by
  refine ⟨?_, by decide, by decide⟩
  intro a ha
  simp only [List.mem_cons, List.not_mem_nil, or_false] at ha
  rcases ha with rfl | rfl | rfl | rfl | rfl <;> decide

/-- A break's or a return's move, one edge from its park, the dwell not due, with a plan and a sheet state. -/
def lastReturn (v : Traverse) (p : Purpose) (plan : Plan) (x : SheetState) : State :=
  let s := lastEdge v p 3000
  { s with std := { s.std with due := false }, car := { s.car with plan := plan }, sheet := { s.sheet with state := x } }

-- A break's move home under MANUAL and PROBE, a return that starts a traverse and one that ends, a traverse with no dwell due.
theorem witness_ArrivalsDecide :
    (∀ x ∈ [(Traverse.breakPark .drive, Purpose.breakReturn .drive, Plan.continuous, SheetState.off),
        (.positioning .returning, .returning .drive, .remaining 1, .on), (.positioning .returning, .returning .drive, .empty, .on),
        (.scanning .forward, .traverse .drive, .continuous, .on)],
      let s := lastReturn x.1 x.2.1 x.2.2.1 x.2.2.2
      driveLines s = s ∧ s.car.traverse = x.1 ∧ s.car.move.map (·.purpose) = some x.2.1 ∧ s.std.due = false ∧
      ((s.car.axis.get .upper).edge 4 .forward).pos = 3000 ∧ frame.parkTend < 3000) ∧
    (after (.quadratureEdge .upper .forward) (lastReturn (.breakPark .drive) (.breakReturn .drive) .continuous .off)).car.traverse =
      .probing false ∧
    (after (.quadratureEdge .upper .forward) (lastReturn (.positioning .returning) (.returning .drive) (.remaining 1) .on)).car.traverse =
      .scanning .reverse ∧
    (after (.quadratureEdge .upper .forward) (lastReturn (.positioning .returning) (.returning .drive) .empty .on)).car.traverse =
      .parked .drive := by
  refine ⟨?_, by decide, by decide, by decide⟩
  intro a ha
  simp only [List.mem_cons, List.not_mem_nil, or_false] at ha
  rcases ha with rfl | rfl | rfl | rfl <;> decide

-- Chapter 07, a break line meeting the turnaround, arrival first: the scan COMPLETE, no request, the decision finds the sheet OFF.
theorem test_quadratureEdge_before_a_due_break :
    let b := binResult 1 ⟨⟨⟨4800, 4⟩, ⟨400, 4⟩, ⟨60, 4⟩⟩, false, false⟩
    let s := lastReturn (.scanning .forward) (.traverse .drive) .continuous .on
    let t := after (.quadratureEdge .upper .forward) { s with
      sheet := { s.sheet with externalDue := true }
      prof := { s.prof with openScan := some { openRecord .forward with results := List.replicate 8 b } } }
    t.car.traverse = .probing false ∧ t.prof.closed.map (·.completion) = some .complete ∧ t.prof.edges.isSome = true ∧
    t.sheet.state = .off ∧ t.sheet.source = .external := by decide

-- Log 44: a SAMPLE break due with it is taken first and gives the source; one whose record is still forming stays due.
theorem test_quadratureEdge_two_due_breaks :
    let s := lastReturn (.scanning .forward) (.traverse .drive) .continuous .on
    let z := { s with sheet := { s.sheet with externalDue := true, sampleDue := true } }
    let f := { z with eng := { z.eng with forming := some ⟨1, 0, 0, none, ⟨none, none, none⟩, ⟨none, none, none⟩, false⟩ } }
    (after (.quadratureEdge .upper .forward) z).sheet.sampleDue = false ∧
    (after (.quadratureEdge .upper .forward) f).sheet.sampleDue = true := by decide

-- R10, log 29: a traverse that the arrival starts is held at once, the skew of 41 being beyond skew_hold.
theorem test_quadratureEdge_holds_the_new_move :
    let s := lastReturn (.positioning .returning) (.returning .drive) .continuous .on
    let z := { s with car := { s.car with axis := ⟨s.car.axis.upper, ⟨3041, 0⟩⟩ } }
    (after (.quadratureEdge .upper .forward) z).car.move.map (·.held) = some ⟨true, false⟩ := by decide

-- The timer at move_timeout and one short of it; a limit in the way and one behind; FRAME_OK and DRV_OK falling and not; FAULTED.
theorem witness_FrameFaultsStopTheTraverse :
    (let s := under ⟨1000, 0⟩ ⟨1000, 0⟩ { move (.traverse .drive) 3000 .forward with timer := 3000 }
     Settled s ∧ s.phase = .running ∧ s.car.traverse ≠ .faulted ∧ frame.moveTimeout ≤ 3000) ∧
    (let s := under ⟨1000, 0⟩ ⟨1000, 0⟩ { move (.traverse .drive) 3000 .forward with timer := 2999 }
     Settled s ∧ ¬frame.moveTimeout ≤ 2999 ∧ (s.inputs.get .lower).limD = false ∧ s.frameOk = true ∧ s.car.valid = true ∧
      s.pins.run.get .lower = true) ∧
    (Settled up ∧ up.car.traverse ≠ .faulted ∧ up.car.valid = false ∧ up.pins.run.get .lower = false) ∧
    (let s := { parked with car := { parked.car with traverse := .faulted, cause := some .travelLimit } }
     Settled s ∧ s.phase = .running ∧ s.car.traverse = .faulted ∧ s.frameOk = true ∧ s.car.valid = true ∧
      (after (.frameOkLow true) s).car.cause = some .travelLimit) :=
  ⟨⟨rfl, by decide⟩, ⟨rfl, by decide⟩, ⟨rfl, by decide⟩, ⟨rfl, by decide⟩⟩

/-- HOMING, seeking, the upper carriage zeroed or not, with input levels given. -/
def seeking1 (zeroed : Bool) (i : DriveInputs) : State :=
  driveLines { up with
    inputs := .both i
    car := { placed (.homing .seek) 0 0 with
      valid := false, axis := ⟨⟨if zeroed then 0 else 9, 0⟩, ⟨5, 0⟩⟩,
      move := some { move .seek 0 .reverse with arrived := ⟨zeroed, false⟩ } } }

-- Not seeking; the other carriage not zeroed; the other zeroed, with the checks passing and with a limit asserted.
theorem witness_HomeSwitchZeroesASeekingCarriage :
    (Settled parked ∧ parked.phase = .running ∧ parked.car.frame = some frame) ∧
    (let s := seeking1 false ⟨false, false, false, true⟩
     Settled s ∧ (s.inputs.get .lower).home = false ∧ s.car.move.map (·.arrived) = some ⟨false, false⟩) ∧
    (let s := seeking1 true ⟨false, false, false, true⟩
     Settled s ∧ s.frameOk = true ∧ s.car.axis.upper = ⟨0, 0⟩ ∧ 0 < frame.parkTend ∧ s.car.move.map (·.purpose) = some .seek) ∧
    (let s := seeking1 true ⟨false, true, false, true⟩
     Settled s ∧ (s.inputs.get .upper).limT = true ∧ (s.inputs.get .upper).drvOk = true) :=
  ⟨⟨rfl, rfl, rfl⟩, ⟨rfl, by decide⟩, ⟨rfl, by decide⟩, ⟨rfl, by decide⟩⟩

/-! ### Orders -/

/-- Every traverse state at position 1000, standing or moving as it does. -/
def everyState : List State :=
  [parked, standing .halted, standing .faulted, standing (.standardizing .drive), scanning 1000, standing (.singlePoint 1000),
    moving (.homing .seek) .seek 0 .reverse, moving (.positioning .point) .point 2000 .forward,
    moving (.positioning .park) (.park .drive) 3000 .forward, moving (.positioning .returning) (.returning .drive) 3000 .forward,
    moving (.breakPark .drive) (.breakReturn .drive) 3000 .forward, moving (.probing false) .probe 2000 .forward]

/-- A card may be taken in every traverse state, from either group of slots. -/
theorem everyState_free : (everyState.all fun s => freeB s 3 && freeB s 12) = true := by decide

-- No record; the same, another geometry, another prescaler, with positions valid and not; a state that does not take it.
theorem witness_SetFrameReplacesTheRecord : (CardFree up 2 ∧ Passes 2 (.setFrame frame) ∧ up.car.traverse = .halted) ∧
    (CardFree parked 2 ∧ Passes 2 (.setFrame { frame with prescaler := 16 }) ∧ parked.car.valid = true) ∧
    (CardFree parked 2 ∧ Passes 2 (.setFrame { frame with nbins := 9 }) ∧ Passes 2 (.setFrame { frame with approach := 0 })) ∧
    (let s := { standing .halted with car := { (standing .halted).car with valid := false } }
     CardFree s 2 ∧ s.car.frame = some frame ∧ s.car.valid = false) ∧ CardFree (scanning 500) 2 :=
  ⟨⟨cardFree_of (by decide), rfl, rfl⟩, ⟨cardFree_of (by decide), rfl, rfl⟩, ⟨cardFree_of (by decide), rfl, rfl⟩,
    ⟨cardFree_of (by decide), rfl, rfl⟩, cardFree_of (by decide)⟩

/-- PARKED with input levels. -/
def parkedWith (u l : DriveInputs) : State := { parked with inputs := ⟨u, l⟩ }

-- No record; a state that does not take it; neither, one and both carriages on their switches; each failing check.
theorem witness_HomeSeeksTheSwitches :
    let i : DriveInputs := ⟨false, false, false, true⟩
    Passes 3 .home ∧ CardFree up 3 ∧ up.car.frame = none ∧ CardFree (scanning 500) 3 ∧
    CardFree (parkedWith i i) 3 ∧ CardFree (parkedWith { i with home := true, limT := true } i) 3 ∧
    CardFree (parkedWith { i with home := true } { i with home := true }) 3 ∧ 0 < frame.parkTend ∧
    CardFree { parked with frameOk := false } 3 ∧ CardFree (parkedWith i { i with drvOk := false }) 3 ∧
    CardFree (parkedWith { i with limT := true } i) 3 ∧
    CardFree (parkedWith { i with home := true } { i with home := true, limT := true }) 3 ∧
    (let s := parkedWith { i with home := true } { i with home := true }
     CardFree { s with car := { s.car with frame := some { frame with parkTend := 0 } } } 3) := by
  refine ⟨rfl, ?_, rfl, ?_, ?_, ?_, ?_, by decide, ?_, ?_, ?_, ?_, ?_⟩ <;> exact cardFree_of (by decide)

theorem parked_checks : StartChecks parked := startChecks_of rfl rfl (fun f h => by cases h; decide)

-- PARKED with the checks passing; each failing check; then SCAN in every state, with and without a record, a STOP in flight, the sheet
-- OFF under MANUAL and PROBE.
theorem witness_ScanByState : (CardFree parked 4 ∧ Passes 4 (.scan 255) ∧ parked.sheet.state ≠ .off ∧ StartChecks parked ∧
      parked.car.axis.upper.pos < frame.parkDrive) ∧
    (∀ x ∈ [({ parked with frameOk := false }, FaultCause.interlock),
        ({ parked with inputs := .both ⟨false, false, false, false⟩ }, .driveNotReady),
        ({ parked with inputs := .both ⟨false, false, true, true⟩ }, .travelLimit),
        ({ parked with car := placed (.parked .tending) 601 400 }, .alignment)],
      freeB x.1 4 = true ∧ x.1.car.traverse = .parked .tending ∧ startFault (.traverse .drive) x.1 = some x.2) ∧
    (CardFree up 4 ∧ up.car.frame = none) ∧ Passes 4 (.scan 0) ∧
    (CardFree (after (.stopEnd 5) (scanning 1000)) 4 ∧
      (after (.stopEnd 5) (scanning 1000)).car.long = some ⟨.stopEnd, 5⟩) ∧
    (∀ n : Fin 2,
      let s := { parked with sheet := { up.sheet with state := .off, settings := { resetSheetSettings with resumeMode := n.val } } }
      freeB s 4 = true ∧ s.car.nextPlan = none ∧ s.car.move = none ∧ frame.probePos ≠ s.car.axis.upper.pos) := by
  refine ⟨⟨cardFree_of (by decide), rfl, by decide, parked_checks, by decide⟩, ?_, ⟨cardFree_of (by decide), rfl⟩, rfl,
    ⟨cardFree_of (by decide), by decide⟩, by decide⟩
  intro x hx
  simp only [List.mem_cons, List.not_mem_nil, or_false] at hx
  rcases hx with rfl | rfl | rfl | rfl <;> decide

theorem scan_can_fail_alignment : StartFails { parked with car := placed (.parked .tending) 601 400 } .alignment :=
  ⟨nofun, nofun, nofun, fun _ => ⟨rfl, by decide, by decide, frame, rfl, by decide⟩, nofun⟩

/-- A STOP in flight in a state. -/
def withLong (k : LongKind) (s : State) : State := { s with car := { s.car with long := some ⟨k, 5⟩ } }

-- Every state takes a STOP card (everyState_free); a STOP END and a STOP NOW in flight; a park elsewhere; a dwell with a card.
theorem witness_StopByTraverseState : Passes 3 (.stop 0) ∧ Passes 3 (.stop 1) ∧
    (∀ s ∈ everyState, freeB (withLong .stopEnd s) 3 = true ∧ freeB (withLong .stopNow s) 3 = true) ∧
    (StartChecks (scanning 1000) ∧ (scanning 1000).car.frame = some frame ∧ (scanning 1000).car.axis.upper.pos ≠ frame.parkTend ∧
      (scanning 1000).prof.openScan = some (openRecord .forward)) ∧
    (freeB dwellOver 3 = true ∧ dwellOver.std.card = some 13) ∧
    (atOrPast .forward 400 400 = true ∧ (after (.stopNow 3) (scanning 400)).car.traverse = .parked .tending) ∧
    (let s := { scanning 1000 with frameOk := false }
     CardFree s 3 ∧ StartFails s .interlock ∧ (after (.stopNow 3) s).car.traverse = .faulted) := by
  refine ⟨rfl, rfl, ?_, ⟨startChecks_of rfl (by decide) (fun f h => by cases h; decide), rfl, by decide, by decide⟩, by decide,
    by decide, cardFree_of (by decide), ⟨fun _ => rfl, nofun, nofun, nofun, nofun⟩, by decide⟩
  intro s hs
  simp only [everyState, List.mem_cons, List.not_mem_nil, or_false] at hs
  rcases hs with rfl | rfl | rfl | rfl | rfl | rfl | rfl | rfl | rfl | rfl | rfl | rfl <;> decide

-- An older MOVE_TO in flight: a newer one and a STOP END that acts as STOP NOW end it, and take the slot after its answer.
theorem test_moveTo_supersedes :
    let s := withLong .moveTo (moving (.positioning .point) .point 2000 .forward)
    freeB s 3 = true ∧ (after (.moveTo 3 1500) s).ord.answers = [endedOf 5 .superseded 0] ∧
    (after (.moveTo 3 1500) s).car.move.map (·.target) = some 1500 ∧ (after (.moveTo 3 1500) s).car.long = some ⟨.moveTo, 5⟩ ∧
    (granted 3 (after (.moveTo 3 1500) s)).car.long = some ⟨.moveTo, 3⟩ ∧
    (after (.stopEnd 3) s).ord.answers = [endedOf 5 .abandoned 0] := by decide

-- Both ends of the targets, one outside each; a STOP in flight; both carriages there already; the nearest park reached already.
theorem witness_MoveToAndPark : Passes 3 (.moveTo 3000) ∧ (frame.parkTend = 400 ∧ frame.parkDrive = 3000) ∧
    (CardFree parked 3 ∧ StartChecks parked ∧ atOrPast .forward 400 3000 = false ∧ atOrPast .forward 400 400 = true ∧ ¬(400 ≤ 399)) ∧
    CardFree (withLong .stopEnd (standing (.singlePoint 1000))) 3 ∧ CardFree up 3 ∧ CardFree (scanning 500) 3 ∧
    (CardFree { parked with frameOk := false } 3 ∧ StartFails { parked with frameOk := false } .interlock) ∧
    Passes 3 .park ∧ (CardFree (standing (.singlePoint 1000)) 3 ∧ StartChecks (standing (.singlePoint 1000)) ∧
      atOrPast .reverse 1000 400 = false) ∧
    (CardFree { standing (.singlePoint 1000) with frameOk := false } 3 ∧
      StartFails { standing (.singlePoint 1000) with frameOk := false } .interlock) ∧
    CardFree { up with car := placed (.singlePoint 400) 400 400 } 3 := by
  refine ⟨rfl, ⟨rfl, rfl⟩, ⟨cardFree_of (by decide), parked_checks, by decide, by decide, by decide⟩, ?_, ?_, ?_,
    ⟨?_, fun _ => rfl, nofun, nofun, nofun, nofun⟩, rfl,
    ⟨?_, startChecks_of rfl rfl (fun f h => by cases h; decide), by decide⟩, ⟨?_, fun _ => rfl, nofun, nofun, nofun, nofun⟩,
    ?_⟩ <;> exact cardFree_of (by decide)

/-! ### Settings, standardization, alarms, export -/

-- The highest codes and one beyond each, the pair 0 and 3; a state that takes it and one that does not.
theorem witness_SetTimebaseHoldsThePair : CardFree parked 11 ∧ CardFree (scanning 500) 11 ∧ (11 : Slot).val < 12 ∧
    (5 ≤ 5 ∧ 3 ≤ 3 ∧ ¬(5 = 0 ∧ 3 = 3)) ∧ ¬(6 ≤ 5 ∧ 0 ≤ 3 ∧ ¬(6 = 0 ∧ 0 = 3)) ∧ ¬(0 ≤ 5 ∧ 4 ≤ 3 ∧ ¬(0 = 0 ∧ 4 = 3)) ∧
    ¬(0 ≤ 5 ∧ 3 ≤ 3 ∧ ¬(0 = 0 ∧ 3 = 3)) :=
  ⟨cardFree_of (by decide), cardFree_of (by decide), by decide, by decide, by decide, by decide, by decide⟩

theorem witness_CalibrationAndProfileSettings : CardFree parked 11 ∧ CardFree (scanning 500) 11 ∧
    (scanning 500).car.traverse.isScanning = true ∧ parked.car.traverse.isScanning = false ∧
    Passes 11 (.setProfile resetProfileSettings) ∧ Passes 11 .reseed :=
  ⟨cardFree_of (by decide), cardFree_of (by decide), by decide, rfl, rfl, rfl⟩

-- Every state takes a STANDARDIZE card from slot 12 (everyState_free); a card held already; the count at the new interval.
theorem witness_StandardizeAndSetStd : Passes 12 .standardize ∧ CardFree { parked with std := { up.std with card := some 13 } } 12 ∧
    Passes 11 (.setStd ⟨255, 1, 4095⟩) ∧ CardFree { up with std := { up.std with count := 255 } } 11 ∧ CardFree dwellOver 11 ∧
    dwellOver.car.traverse.isStandardizing = true :=
  ⟨rfl, cardFree_of (by decide), rfl, cardFree_of (by decide), cardFree_of (by decide), rfl⟩

theorem witness_DwellEndWritesTheZeros : (Settled dwellOver ∧ dwellOver.phase = .running ∧
      dwellOver.std.dwell = some ⟨20, 100, 20, ⟨⟨246130, 200⟩, ⟨216000, 200⟩, ⟨64070, 64⟩⟩⟩ ∧ 20 ≤ 20 ∧ 100 ≠ 0 ∧
      dwellOver.car.move = none ∧ dwellOver.car.frame = some frame ∧ dwellOver.car.traverse = .standardizing .drive ∧
      frame.parkTend < dwellOver.car.axis.upper.pos ∧
      dwellOver.sheet.state ≠ .off ∧ dwellOver.car.long = none ∧ dwellOver.car.nextPlan = none ∧ dwellOver.car.plan = .empty) ∧
    (Settled up ∧ up.std.dwell = none) := ⟨⟨rfl, by decide⟩, rfl, rfl⟩

-- A held STOP, the sheet OFF under PROBE, a plan that starts a traverse and a start that fails, each at the end of a dwell.
theorem witness_DwellEndDecides :
    ∀ x ∈ [(({ dwellOver with car := { dwellOver.car with long := some ⟨.stopEnd, 5⟩ } } : State), Traverse.parked .drive),
        ({ dwellOver with sheet := { dwellOver.sheet with state := .off } }, .probing false),
        ({ dwellOver with car := { dwellOver.car with plan := .remaining 1 } }, .scanning .reverse),
        ({ dwellOver with car := { dwellOver.car with plan := .continuous }, frameOk := false }, .faulted)],
      driveLines x.1 = x.1 ∧ x.1.car.move = none ∧ x.1.car.frame = some frame ∧ frame.parkTend < x.1.car.axis.upper.pos ∧
      (after .dwellEnd x.1).car.traverse = x.2 := by
  intro x hx
  simp only [List.mem_cons, List.not_mem_nil, or_false] at hx
  rcases hx with rfl | rfl | rfl | rfl <;> decide

theorem witness_SettingsOfSheetExportAndGuard : CardFree up 11 ∧ Passes 11 (.setSheet resetSheetSettings) ∧
    Passes 11 (.setExport ⟨1, 15, 255⟩) ∧ Passes 11 (.setGuard ⟨7, 0xFF00, 0xFFFF, 15, 1⟩) ∧ Passes 11 (.setGuard ⟨8, 1, 0, 0, 0⟩) :=
  ⟨cardFree_of (by decide), rfl, rfl, rfl, rfl⟩

theorem witness_ClearGuardFaultEmptiesTheRecord : (CardFree up 11 ∧ (11 : Slot).val < 12 ∧ up.guard.fault = none) ∧
    (let s := { up with guard := { up.guard with fault := some ⟨.b, .read, 8, true⟩ } }
     CardFree s 11 ∧ s.guard.fault = some ⟨.b, .read, 8, true⟩) :=
  ⟨⟨cardFree_of (by decide), by decide, rfl⟩, cardFree_of (by decide), rfl⟩

-- The last kind with the highest holdoff; an entry disabled, one enabled anew, one of another severity, with and without condition.
theorem witness_SetAlarmRestartsOrKeeps : Passes 11 (.setAlarm ⟨11, 1, 1, 255, 1⟩) ∧ Passes 11 (.setAlarm ⟨11, 0, 0, 0, 0⟩) ∧
    (kindIdx .access).val = 11 ∧ CardFree up 11 ∧ (up.alarm.entry .access).major = false ∧
    CardFree (alarmed .access ringing) 11 ∧ ((alarmed .access ringing).alarm.entry .access).condition = true ∧
    CardFree (alarmed .access { ringing with enabled := false, state := .normal }) 11 :=
  ⟨rfl, rfl, rfl, cardFree_of (by decide), by decide, cardFree_of (by decide), by decide, cardFree_of (by decide)⟩

theorem witness_AckAlarmsAcknowledgesTogether : CardFree (alarmed .travel ringing) 15 ∧ Passes 15 (.ackAlarms 4095) :=
  ⟨cardFree_of (by decide), rfl⟩

theorem witness_SilenceHornSetsTheFlag : (CardFree (alarmed .travel ringing) 15 ∧
      hornSounds (alarmed .travel ringing).alarm = true) ∧ (CardFree up 15 ∧ hornSounds up.alarm = false) :=
  ⟨⟨cardFree_of (by decide), by decide⟩, cardFree_of (by decide), by decide⟩

theorem witness_HornAndFlashWaves : (CardFree (alarmed .travel ringing) 11 ∧ Passes 11 (.setHorn 3) ∧
      (alarmed .travel ringing).alarm.entries[7].unacked = true) ∧
    (CardFree up 11 ∧ ∀ i : Fin 12, up.alarm.entries[i].unacked = false) :=
  ⟨⟨cardFree_of (by decide), rfl, by decide⟩, cardFree_of (by decide), by decide⟩

theorem witness_HoldoffEndActivates :
    (let s := alarmed .travel { ringing with state := .holdoff }
     Settled s ∧ (s.alarm.entry .travel).state = .holdoff ∧ (s.alarm.entry .travel).remaining = 0) ∧
    (let s := alarmed .travel { ringing with state := .holdoff, remaining := 1 }
     Settled s ∧ (s.alarm.entry .travel).remaining ≠ 0) := ⟨⟨rfl, by decide⟩, rfl, by decide⟩

/-- Two blocks of one bin, at a frame of a block, or cut. -/
def exporting (cut : Bool) (blk n : Nat) (w : Option (BitVec 48)) : State :=
  let c : ExportCopy := ⟨[⟨.mass, 5, [⟨1, true, false, false⟩]⟩, ⟨.moist, 5, [⟨1, true, false, false⟩]⟩], 1, .on, 15⟩
  driveLines { up with exp := { up.exp with sending := some ⟨if cut then none else some c, blk, n, w⟩ } }

-- The three kinds of frame start; the ends of a frame, of a block, of a cycle, of a cut cycle; the idle link.
theorem witness_ExportSendsItsFrames :
    (∀ x ∈ [exporting false 0 0 none, exporting false 0 1 none, exporting false 1 2 none, exporting false 0 1 (some 5),
      exporting false 0 2 (some 5), exporting false 1 2 (some 5), exporting true 0 2 (some 5), up],
      driveLines x = x ∧ x.phase = .running) := by
  intro x hx
  simp only [List.mem_cons, List.not_mem_nil, or_false] at hx
  rcases hx with rfl | rfl | rfl | rfl | rfl | rfl | rfl | rfl <;> decide

-- Chapter 09: the first bits of the header frame are 0, 1, 0, 0, 0, 0; the lines are low before it; a copy of two selected profiles.
theorem witness_ExportLines :
    (List.finRange 6).map (fun i => (exportLines (sending 0 (some 0x404D2000F4F0)) ⟨i.val, by omega⟩ true)) =
      [(true, false), (true, true), (true, false), (true, false), (true, false), (true, false)] ∧
    (List.finRange 48).map (fun i => exportLines (sending 0 none) i true) = List.replicate 48 (false, false) ∧
    ((exportCopy frame ⟨true, true, false, false⟩ (after (.setFrame 2 frame) up)).blocks.map fun x => x.bins.length) = [8, 8] := by
  decide

end Sys2Proof.Tests
end

section
/-! PROOFS. Chapter 02, the time base and the head links: pin reset (O8), SET_TIMEBASE (O49), the judging of transfers (O30), the
forming and routing of sample records (O31) and their entry into the bins (O32). -/

namespace Sys2Proof.Machine

open Sys2Proof

/-! ## Pin reset -/

/-- No line reads an input while no move is in progress, so the pin reset state has its lines where R5, R161, R162, R168 and R199
put them. -/
theorem settled_pinReset (s : State) : Settled (pinReset s) := by
  have attn : attnLine (pinReset s) = false := by simp [attnLine, pinReset, State.reset]
  unfold Settled driveLines
  rw [attn]
  rfl

theorem exec_pinReset (s : State) : exec .pinReset s = .next (pinReset s) :=
  congrArg Host.Outcome.next (settled_pinReset s)

/-- The pin reset value of each alarm entry, MAJOR for the kinds that the table of kinds says so of (R152). -/
theorem pinReset_entry (s : State) (k : AlarmKind) : (pinReset s).alarm.entry k =
    AlarmEntry.reset (decide (k ∈ [AlarmKind.sheetBreak, .weight, .moisture, .alignment, .travel, .headLink])) := by
  cases k <;> rfl

theorem pinReset_receiver (s : State) (b : Beam) : (pinReset s).links.get b = Receiver.reset := by
  cases b <;> rfl

/-- Settles O8: the reset values are those `State.reset` holds, block by block. -/
theorem pinResetKeepsInputsAndMemory : Obligations.PinResetKeepsInputsAndMemory := by
  unfold Obligations.PinResetKeepsInputsAndMemory
  intro s
  refine ⟨exec_pinReset s, pinReset s, exec_pinReset s, rfl, ?links, rfl, rfl, rfl, ?channels, rfl, rfl, rfl, rfl, rfl, rfl, rfl, rfl,
    rfl, ?profiles, rfl, rfl, rfl, rfl, rfl, rfl, rfl, rfl, rfl, rfl, rfl, rfl, rfl, ?outcomes, rfl, rfl, rfl, rfl, rfl, rfl, rfl, rfl,
    rfl, pinReset_entry s, rfl, rfl, rfl, rfl, rfl, rfl, rfl, rfl, rfl, rfl, rfl, rfl, rfl, rfl⟩
  case links =>
    intro b
    rw [pinReset_receiver]
    exact ⟨rfl, rfl, rfl, rfl, rfl⟩
  case channels => intro c; cases c <;> exact ⟨rfl, rfl, rfl⟩
  case profiles => intro q; cases q <;> exact ⟨rfl, rfl⟩
  case outcomes => intro c; cases c <;> rfl

/-! ## SET_TIMEBASE -/

/-- The pair of codes that R33 takes. -/
theorem orderInRange_setTimebase {tick sample : Nat} :
    orderInRange (.setTimebase tick sample) = true ↔ tick ≤ 5 ∧ sample ≤ 3 ∧ ¬(tick = 0 ∧ sample = 3) := by
  simp [orderInRange, within, and_assoc, imp_iff_not_or]

theorem haltedOrParked_iff {t : Traverse} : t.haltedOrParked = true ↔ t = .halted ∨ ∃ x, t = .parked x := by
  cases t <;> simp [Traverse.haltedOrParked]

/-- In an A group slot a card whose parameters are out of range is refused BAD_PARAM (R210). -/
theorem cardRefusal_badParam {slot : Slot} {o : Order} (h : slot.val < 12) (hr : ¬orderInRange o = true) :
    cardRefusal slot (orderCode o) (some o) = some .badParam := by
  have hA : inGroupB slot = false := by simpa [inGroupB] using h
  simp [cardRefusal, hA, hr]

/-- Settles O49: the time base either holds the pair or answers BUSY, by the traverse state. -/
theorem setTimebaseHoldsThePair : Obligations.SetTimebaseHoldsThePair := by
  unfold Obligations.SetTimebaseHoldsThePair
  intro s slot tick sample hs hslot good standing
  have hgood : orderInRange (.setTimebase tick sample) = true ↔ good := orderInRange_setTimebase
  have hstanding : s.car.traverse.haltedOrParked = true ↔ standing := haltedOrParked_iff
  refine ⟨fun hbad => ?refused, fun hg hst => ?held, fun hg hmove => ?busy⟩
  case refused => exact refused_now hs (cardRefusal_badParam hslot (hgood.not.2 hbad)) rfl
  case held =>
    refine leaves_now hs (passes_of hslot (hgood.2 hg)) rfl .orderUnit ?_ rfl
    rw [handOver, takeSetTimebase, markTaken_car, if_pos (hstanding.2 hst)]
    rfl
  case busy =>
    refine leaves_now hs (passes_of hslot (hgood.2 hg)) rfl .orderUnit ?_ rfl
    rw [handOver, takeSetTimebase, markTaken_car, if_neg (hstanding.not.2 hmove)]
    rfl

/-! ## The condition of an alarm kind -/

/-- The kinds stand in the order of their numbers. -/
theorem kindOf_kindIdx (k : AlarmKind) : kindOf (kindIdx k).val = some k := by cases k <;> rfl

theorem kindIdx_injective : Function.Injective kindIdx := fun j k h =>
  Option.some.inj ((kindOf_kindIdx j).symm.trans (h ▸ kindOf_kindIdx k))

theorem entry_setEntry_same (a : AlarmUnit) (k : AlarmKind) (e : AlarmEntry) : (a.setEntry k e).entry k = e := by
  simp [AlarmUnit.entry, AlarmUnit.setEntry]

theorem entry_setEntry_other {j k : AlarmKind} (h : j ≠ k) (a : AlarmUnit) (e : AlarmEntry) :
    (a.setEntry k e).entry j = a.entry j := by
  have hne : (kindIdx k).val ≠ (kindIdx j).val := fun hv => h (kindIdx_injective (Fin.ext hv)).symm
  simp [AlarmUnit.entry, AlarmUnit.setEntry, Vector.getElem_set_ne _ _ hne]

section
variable (k : AlarmKind) (e : AlarmEntry) (s : State)

theorem moveEntry_entry_same : (moveEntry k e s).alarm.entry k = e := by
  simp only [moveEntry, State.raiseIf_alarm, State.onAlarm_alarm]
  exact entry_setEntry_same s.alarm k e

theorem moveEntry_entry_other {j : AlarmKind} (h : j ≠ k) : (moveEntry k e s).alarm.entry j = s.alarm.entry j := by
  simp only [moveEntry, State.raiseIf_alarm, State.onAlarm_alarm]
  exact entry_setEntry_other h s.alarm e

/-- A MAJOR entry that comes into ACTIVE_UNACKED clears the silence flag (R162). -/
theorem moveEntry_silence : (moveEntry k e s).alarm.silence =
    if e.major = true ∧ e.state = .activeUnacked ∧ (s.alarm.entry k).state ≠ .activeUnacked then false
    else s.alarm.silence := by
  simp only [moveEntry, State.raiseIf_alarm, State.onAlarm_alarm, AlarmUnit.heard, clearsSilence]
  refine if_congr ?_ rfl rfl
  by_cases h : e.state = .activeUnacked <;> simp [h]

/-- A change of an entry's state raises ALARM (R160). -/
theorem moveEntry_notices : (moveEntry k e s).notices =
    if e.state = (s.alarm.entry k).state then s.notices else s.notices ||| Notice.alarm.bit := by
  simp only [moveEntry, State.raiseIf]
  cases e.state <;> cases (s.alarm.entry k).state <;> simp [State.raise]

end

/-- A flag that a notice sets stands. -/
theorem or_bit_and_bit_ne (v : BitVec 7) (n : Notice) : (v ||| n.bit) &&& n.bit ≠ 0 := by
  have absorb : (v ||| n.bit) &&& n.bit = n.bit := by
    ext i hi
    cases h : n.bit[i] <;> simp [h]
  rw [absorb]
  cases n <;> decide

/-- An appearance changes the state and, where a holdoff starts, its remaining ticks alone. -/
theorem AlarmEntry.appear_eq (e : AlarmEntry) : ∃ st n, e.appear = { e with state := st, remaining := n } ∧
    (st ≠ .holdoff → n = e.remaining) := by
  unfold AlarmEntry.appear
  split
  · split
    · exact ⟨_, _, rfl, fun _ => rfl⟩
    · exact ⟨_, _, rfl, fun h => absurd rfl h⟩
  · exact ⟨_, _, rfl, fun _ => rfl⟩
  · exact ⟨_, _, rfl, fun _ => rfl⟩

/-- A going changes the state and, where a holdoff ends, its remaining ticks alone. -/
theorem AlarmEntry.go_eq (e : AlarmEntry) : ∃ st n, e.go = { e with state := st, remaining := n } ∧
    (e.state ≠ .holdoff → n = e.remaining) := by
  unfold AlarmEntry.go
  split
  · next h => exact ⟨_, _, rfl, fun hn => absurd h hn⟩
  · exact ⟨_, _, rfl, fun _ => rfl⟩
  · exact ⟨_, _, rfl, fun _ => rfl⟩
  · exact ⟨_, _, rfl, fun _ => rfl⟩

/-- A level that stands already changes nothing (R153). -/
theorem AlarmEntry.give_same {e : AlarmEntry} {present : Bool} (h : e.condition = present) : e.give present = e := by
  simp [AlarmEntry.give, h]

/-- A disabled entry only keeps its condition current (R153). -/
theorem AlarmEntry.give_disabled {e : AlarmEntry} (h : e.enabled = false) (present : Bool) :
    e.give present = { e with condition := present } := by
  by_cases hc : e.condition = present
  · rw [AlarmEntry.give_same hc, ← hc]
  · simp [AlarmEntry.give, h, hc]

/-- The appearance of a condition at an enabled entry (R156). -/
theorem AlarmEntry.give_appears {e : AlarmEntry} (he : e.enabled = true) (hc : e.condition = false) :
    e.give true = { e with condition := true }.appear := by
  simp [AlarmEntry.give, he, hc]

/-- The going of a condition at an enabled entry (R156). -/
theorem AlarmEntry.give_goes {e : AlarmEntry} (he : e.enabled = true) (hc : e.condition = true) :
    e.give false = { e with condition := false }.go := by
  simp [AlarmEntry.give, he, hc]

/-- A given condition changes an entry's level, its state, and the remaining ticks of a holdoff alone. -/
theorem AlarmEntry.give_eq (e : AlarmEntry) (present : Bool) : ∃ st n,
    e.give present = { e with condition := present, state := st, remaining := n } ∧
    (st ≠ .holdoff → e.state ≠ .holdoff → n = e.remaining) := by
  by_cases hc : e.condition = present
  · exact ⟨e.state, e.remaining, by rw [AlarmEntry.give_same hc, ← hc], fun _ _ => rfl⟩
  by_cases he : e.enabled = false
  · exact ⟨e.state, e.remaining, AlarmEntry.give_disabled he present, fun _ _ => rfl⟩
  have he : e.enabled = true := by simpa using he
  cases present
  · obtain ⟨st, n, h, hn⟩ := AlarmEntry.go_eq { e with condition := false }
    exact ⟨st, n, (AlarmEntry.give_goes he (by simpa using hc)).trans h, fun _ => hn⟩
  · obtain ⟨st, n, h, hn⟩ := AlarmEntry.appear_eq { e with condition := true }
    exact ⟨st, n, (AlarmEntry.give_appears he (by simpa using hc)).trans h, fun hst _ => hn hst⟩

/-- What an owner's giving of a condition leaves (R153, R156, R160, R162). -/
theorem giveCondition_given (k : AlarmKind) (present : Bool) (s : State) :
    ConditionGiven s (giveCondition k present s) k present := by
  have hentry : (giveCondition k present s).alarm.entry k = (s.alarm.entry k).give present := moveEntry_entry_same ..
  have hsilence := moveEntry_silence k ((s.alarm.entry k).give present) s
  have hnotices := moveEntry_notices k ((s.alarm.entry k).give present) s
  obtain ⟨st, n, heq, hn⟩ := (s.alarm.entry k).give_eq present
  rw [heq] at hsilence hnotices
  constructor
  case level => rw [hentry, heq]
  case settings => rw [hentry, heq]; exact ⟨rfl, rfl, rfl, rfl⟩
  case same => intro h; rw [hentry, AlarmEntry.give_same h]
  case disabled => intro h; rw [hentry, AlarmEntry.give_disabled h]; exact ⟨rfl, rfl⟩
  case appears =>
    rintro he hc rfl
    rw [hentry, AlarmEntry.give_appears he hc]
    exact ⟨fun hs hh => by simp [AlarmEntry.appear, hs, hh], fun hs hh => by simp [AlarmEntry.appear, hs, hh],
      fun hs => by simp [AlarmEntry.appear, hs]⟩
  case goes =>
    rintro he hc rfl
    rw [hentry, AlarmEntry.give_goes he hc]
    refine ⟨fun hs => ?_, fun hs => ?_, fun hs => ?_⟩ <;> simp [AlarmEntry.go, hs]
  case remaining => rw [hentry, heq]; exact hn
  case changed =>
    rw [hentry, heq]
    intro h
    rw [giveCondition, heq, hnotices, if_neg h]
    exact or_bit_and_bit_ne s.notices .alarm
  case unchanged =>
    rw [hentry, heq]
    intro h
    rw [giveCondition, heq, hnotices, if_pos h]
  case entered =>
    rw [hentry, heq]
    intro hm hs hold
    rw [giveCondition, heq, hsilence]
    exact if_pos ⟨hm, hs, hold⟩
  case kept =>
    rw [hentry, heq]
    intro h
    rw [giveCondition, heq, hsilence]
    exact if_neg h
  case others =>
    intro j hj
    exact moveEntry_entry_other k _ s (by simpa using hj)

/-- The lines stand apart from the alarm table's entries, its silence flag and the notices. -/
theorem ConditionGiven.driveLines {s t : State} {k : AlarmKind} {present : Bool} (h : ConditionGiven s t k present) :
    ConditionGiven s (driveLines t) k present := { h with }

/-! ## Head link transfers -/

theorem PerBeam.get_set_same {α : Type} (p : PerBeam α) (b : Beam) (v : α) : (p.set b v).get b = v := by cases b <;> rfl

theorem PerBeam.get_set_other {α : Type} {b c : Beam} (h : c ≠ b) (p : PerBeam α) (v : α) : (p.set b v).get c = p.get c := by
  cases b <;> cases c <;> simp_all [PerBeam.get, PerBeam.set]

/-- The judgement of a frame, branch by branch (R37, R38, R43). -/
theorem Receiver.judge_eq (k : Word) (f : HeadFrame) (r : Receiver) :
    r.judge k f =
      if 2 ≤ r.slots.length then
        { r with transfer := none, settled := k, bad := bump255 r.bad, lastError := .overrun, lossLimit := some k }
      else if (frameBytes f).foldl (· + ·) 0 ≠ 0xFF then
        { r with transfer := none, settled := k, bad := bump255 r.bad, lastError := .check }
      else if frameCount f ≠ k.setWidth 8 then
        { r with transfer := none, settled := k, bad := bump255 r.bad, lastError := .sequence }
      else { r with transfer := none, settled := k, bad := 0, slots := r.slots ++ [heldFrame k f] } := by
  simp only [Receiver.judge, Config.linkSlots, frameIntact, Bool.not_eq_true', beq_eq_false_iff_ne, bne_iff_ne, Receiver.miss]

theorem headLinkBad_eq (l : PerBeam Receiver) : headLinkBad l = decide (8 ≤ l.upper.bad ∨ 8 ≤ l.lower.bad) :=
  (Bool.decide_or _ _).symm

/-- A transfer that completes on a link where none is in progress changes nothing. -/
theorem completeTransfer_idle {f : HeadFrame} {s : State} (h : (s.links.get (frameBeam f)).transfer = none) :
    completeTransfer f s = s := by
  simp only [completeTransfer, h]

/-- The transfer of strobe `k` judged, and HEAD_LINK given its condition (R35, R38). -/
theorem completeTransfer_of {f : HeadFrame} {s : State} {k : Word} (h : (s.links.get (frameBeam f)).transfer = some k) :
    completeTransfer f s =
      let l := s.links.set (frameBeam f) ((s.links.get (frameBeam f)).judge k f)
      giveCondition .headLink (headLinkBad l) (s.onLinks fun _ => l) := by
  simp only [completeTransfer, h]
  rfl

theorem exec_headLinkTransferComplete {s : State} (h : s.phase = .running) (f : HeadFrame) :
    exec (.headLinkTransferComplete f) s = .next (driveLines (completeTransfer f s)) := by
  show done (whenRunning s (completeTransfer f)) = _
  simp [done, whenRunning, h]

/-- A condition given changes the alarm table and the notices alone. -/
theorem giveCondition_rest (k : AlarmKind) (present : Bool) (s : State) :
    { giveCondition k present s with alarm := s.alarm, notices := s.notices } = s := by
  simp only [giveCondition, moveEntry, State.raiseIf]
  split <;> rfl

/-- Settles O30: the judgement's branches, and what a given condition leaves. -/
theorem transfersAreJudged : Obligations.TransfersAreJudged := by
  unfold Obligations.TransfersAreJudged
  intro s f hset hrun b r bad
  refine ⟨fun hidle => ?idle, fun k hk => ⟨driveLines (completeTransfer f s), exec_headLinkTransferComplete hrun f, ?_⟩⟩
  case idle => rw [exec_headLinkTransferComplete hrun, completeTransfer_idle hidle, hset]
  have hlinks : (completeTransfer f s).links = s.links.set b (r.judge k f) := by
    rw [completeTransfer_of hk]
    exact congrArg Surround.links (giveCondition_surround ..)
  rw [driveLines_links, hlinks]
  refine ⟨?judged, fun c hc => PerBeam.get_set_other hc .., ?condition, ?rest⟩
  case judged => exact (PerBeam.get_set_same ..).trans (Receiver.judge_eq k f r)
  case condition =>
    rw [← headLinkBad_eq, completeTransfer_of hk]
    exact { (giveCondition_given .headLink _ (s.onLinks fun _ => _)).driveLines with }
  case rest =>
    rw [completeTransfer_of hk]
    exact congrArg (fun t : State => { t with links := s.links, pins := s.pins }) (giveCondition_rest .headLink _ (s.onLinks fun _ => _))

/-! ## The bin of a record -/

/-- The bin of a place in the span (R64). -/
theorem BinMap.binOf_eq_some_iff {m : BinMap} {pos b : Nat} (hw : 0 < m.binW) : m.binOf pos = some b ↔
    m.bin0Pos ≤ pos ∧ pos < m.bin0Pos + m.nbins * m.binW ∧ b = (pos - m.bin0Pos) / m.binW := by
  have hlt : (pos - m.bin0Pos) / m.binW < m.nbins ↔ pos - m.bin0Pos < m.nbins * m.binW := Nat.div_lt_iff_lt_mul hw
  unfold BinMap.binOf
  by_cases hlo : pos < m.bin0Pos
  · simp [hlo]
  · simp only [hlo, if_false, hlt, Option.ite_none_right_eq_some, Option.some.injEq]
    omega

/-- The record's direction is the scan's and its place lies in the span (R64). -/
def InSpan (sc : ScanRecord) (r : SampleRecord) : Prop :=
  r.dir = some sc.dir ∧ sc.map.bin0Pos ≤ r.pos ∧ r.pos < sc.map.bin0Pos + sc.map.nbins * sc.map.binW

theorem recordBin_inSpan {sc : ScanRecord} {r : SampleRecord} (hw : 0 < sc.map.binW) (h : InSpan sc r) :
    recordBin sc r = some ((r.pos - sc.map.bin0Pos) / sc.map.binW) := by
  obtain ⟨hdir, hlo, hhi⟩ := h
  rw [recordBin, if_pos hdir, BinMap.binOf_eq_some_iff hw]
  exact ⟨hlo, hhi, rfl⟩

theorem recordBin_outside {sc : ScanRecord} {r : SampleRecord} (hw : 0 < sc.map.binW) (h : ¬InSpan sc r) :
    recordBin sc r = none := by
  by_contra hne
  obtain ⟨b, hb⟩ := Option.ne_none_iff_exists'.1 hne
  rw [recordBin, Option.ite_none_right_eq_some, BinMap.binOf_eq_some_iff hw] at hb
  exact h ⟨hb.1, hb.2.1, hb.2.2.1⟩

theorem InSpan.bin_lt {sc : ScanRecord} {r : SampleRecord} (hw : 0 < sc.map.binW) (h : InSpan sc r) :
    (r.pos - sc.map.bin0Pos) / sc.map.binW < sc.map.nbins := by
  obtain ⟨-, hlo, hhi⟩ := h
  rw [Nat.div_lt_iff_lt_mul hw]
  omega

theorem isAhead_iff {dir : Direction} {b o : Nat} : isAhead dir b o = true ↔ if dir = .forward then o < b else b < o := by
  cases dir <;> simp [isAhead]

theorem travelIndex_eq (dir : Direction) (n b : Nat) : travelIndex dir n b = if dir = .forward then b else n - 1 - b := by
  cases dir <;> simp [travelIndex]

/-! ## A record entering a bin -/

/-- The record enters bin `b`: the bins before it are closed where it is not the open one (R67, R68). -/
def enterBin (sc : ScanRecord) (b : Nat) (v : Per3 (Option Nat)) (s : State) : State :=
  addToBin b v (if s.eng.openBin = some b then s else moveToBin sc b s)

/-- The bin may take the record: none is open, or it is the open one or ahead of it (R66, R68, R69). -/
def Enters (sc : ScanRecord) (opened : Option Nat) (b : Nat) : Prop :=
  ∀ o, opened = some o → o = b ∨ isAhead sc.dir b o = true

section
variable {s : State} {sc : ScanRecord} {r : SampleRecord}

theorem binRecord_enters {b : Nat} (hsc : s.prof.openScan = some sc) (hb : recordBin sc r = some b) (h : Enters sc s.eng.openBin b) :
    binRecord r s = markLoss r.loss (enterBin sc b r.value s) := by
  simp only [binRecord, hsc, hb, enterBin]
  cases ho : s.eng.openBin with
  | none => simp
  | some o =>
    by_cases hbo : b = o
    · simp [hbo]
    · have ha : isAhead sc.dir b o = true := (h o ho).resolve_left (Ne.symm hbo)
      simp [hbo, Ne.symm hbo, ha]

theorem binRecord_behind {b o : Nat} (hsc : s.prof.openScan = some sc) (hb : recordBin sc r = some b) (ho : s.eng.openBin = some o)
    (hne : o ≠ b) (ha : ¬isAhead sc.dir b o = true) : binRecord r s = markLoss r.loss s := by
  simp [binRecord, hsc, hb, ho, hne.symm, ha]

theorem binRecord_outside (hsc : s.prof.openScan = some sc) (hb : recordBin sc r = none) :
    binRecord r s = markLoss r.loss s := by
  simp [binRecord, hsc, hb]

/-- The bins that the entry of a record into bin `b` counts as closed (R68, R76). -/
def binsClosed (sc : ScanRecord) (opened : Option Nat) (b : Nat) : Nat :=
  match opened with
  | none => travelIndex sc.dir sc.map.nbins b
  | some o => distance o b

theorem enterBin_eng (hsc : s.prof.openScan = some sc) (b : Nat) (v : Per3 (Option Nat)) : (enterBin sc b v s).eng =
    { s.eng with
      accs := s.eng.accs.modify b fun a => a.addRecord v
      openBin := some b
      binsDone := s.eng.binsDone + binsClosed sc s.eng.openBin b } := by
  cases ho : s.eng.openBin with
  | none => simp [enterBin, addToBin, moveToBin, closeOpenBin, skippedBins, binsClosed, ho]
  | some o =>
    by_cases hbo : o = b
    · subst hbo
      simp [enterBin, addToBin, binsClosed, distance, ho]
    · have hd : 1 + (distance o b - 1) = distance o b := by unfold distance; split <;> omega
      simp [enterBin, addToBin, moveToBin, closeOpenBin, skippedBins, binsClosed, onOpenScan, ho, hsc, hbo, Nat.add_assoc, hd]

/-- The scan record once a record has entered bin `b`: the open bin left behind is read out (R70). -/
def readOut (sc : ScanRecord) (eng : Engine) (b : Nat) : ScanRecord :=
  match eng.openBin with
  | none => sc
  | some o =>
    if o = b then sc
    else { sc with results := sc.results.set o (binResult sc.settings.binMin (eng.accs.getD o BinAcc.zero)) }

theorem enterBin_openScan (hsc : s.prof.openScan = some sc) (b : Nat) (v : Per3 (Option Nat)) :
    (enterBin sc b v s).prof.openScan = some (readOut sc s.eng b) := by
  cases ho : s.eng.openBin with
  | none => simp [enterBin, moveToBin, closeOpenBin, readOut, ho, hsc]
  | some o =>
    by_cases hbo : o = b
    · simp [enterBin, readOut, ho, hbo, hsc]
    · simp [enterBin, moveToBin, closeOpenBin, onOpenScan, readOut, ho, hbo, hsc]

end

/-! ## Accumulators after a change of one -/

theorem getD_modify_self {α : Type} {l : List α} {i : Nat} (h : i < l.length) (f : α → α) (d : α) :
    (l.modify i f).getD i d = f (l.getD i d) := by
  simp [List.getD_eq_getElem?_getD, h]

theorem getD_modify_ne {α : Type} {i j : Nat} (h : j ≠ i) (l : List α) (f : α → α) (d : α) :
    (l.modify i f).getD j d = l.getD j d := by
  simp [List.getD_eq_getElem?_getD, h.symm]

/-- What a change of one entry keeps of every entry stands everywhere. -/
theorem getD_modify_keeps {α β : Type} (g : α → β) {f : α → α} (h : ∀ a, g (f a) = g a) (l : List α) (i j : Nat) (d : α) :
    g ((l.modify i f).getD j d) = g (l.getD j d) := by
  simp only [List.getD_eq_getElem?_getD, List.getElem?_modify]
  cases l[j]? with
  | none => rfl
  | some a => by_cases hij : i = j <;> simp [hij, h]

/-! ## The mark of a loss -/

/-- The engine once a record's loss mark has gone to the open bin (R44). -/
def markGap (loss : Bool) (e : Engine) : Engine :=
  match loss, e.openBin with
  | true, some b => { e with accs := e.accs.modify b fun a => { a with gap := true } }
  | _, _ => e

theorem markLoss_eng (loss : Bool) (s : State) : (markLoss loss s).eng = markGap loss s.eng := by
  cases loss <;> cases ho : s.eng.openBin <;> simp [markLoss, markGap, onOpenScan, ho]

theorem markLoss_openScan {s : State} {sc : ScanRecord} (h : s.prof.openScan = some sc) (loss : Bool) :
    (markLoss loss s).prof.openScan = some { sc with sampleLoss := sc.sampleLoss || (loss && s.eng.openBin.isSome) } := by
  cases loss <;> cases ho : s.eng.openBin <;> simp [markLoss, onOpenScan, ho, h]

section
variable (loss : Bool) (e : Engine)

/-- The loss mark changes the accumulators alone. -/
theorem markGap_rest : { markGap loss e with accs := e.accs } = e := by
  unfold markGap
  split <;> rfl

theorem markGap_openBin : (markGap loss e).openBin = e.openBin :=
  (congrArg Engine.openBin (markGap_rest loss e) :)

theorem markGap_binsDone : (markGap loss e).binsDone = e.binsDone :=
  (congrArg Engine.binsDone (markGap_rest loss e) :)

theorem markGap_acc (i : Nat) : ((markGap loss e).accs.getD i BinAcc.zero).acc = (e.accs.getD i BinAcc.zero).acc := by
  unfold markGap
  split
  · exact getD_modify_keeps BinAcc.acc (f := fun a => { a with gap := true }) (fun _ => rfl) ..
  · rfl

theorem markGap_other {b i : Nat} (ho : e.openBin = some b) (hi : i ≠ b) :
    (markGap loss e).accs.getD i BinAcc.zero = e.accs.getD i BinAcc.zero := by
  cases loss
  · rfl
  · simp only [markGap, ho]
    exact getD_modify_ne hi ..

theorem markGap_marked {b : Nat} (ho : e.openBin = some b) (hb : b < e.accs.length) :
    (markGap loss e).accs.getD b BinAcc.zero =
      { e.accs.getD b BinAcc.zero with gap := (e.accs.getD b BinAcc.zero).gap || loss } := by
  cases loss
  · simp [markGap]
  · simp only [markGap, ho, Bool.or_true]
    exact getD_modify_self hb ..

end

/-! ## What a record leaves in the bins -/

/-- A channel's value is added up to the cap (R67). -/
theorem BinAcc.addRecord_acc (a : BinAcc) (v : Per3 (Option Nat)) :
    (a.addRecord v).acc = Per3.ofFn fun q => (a.acc.get q).addCapped (v.get q) := rfl

theorem Acc.refuses_iff {a : Acc} {v : Option Nat} : a.refuses v = true ↔ v ≠ none ∧ 4095 ≤ a.count := by
  simp only [Acc.refuses, Bool.and_eq_true, decide_eq_true_eq, Option.isSome_iff_ne_none]
  rfl

/-- The CAPPED mark is set by a value that a full channel refuses (R67). -/
theorem BinAcc.addRecord_capped {a : BinAcc} {v : Per3 (Option Nat)} : (a.addRecord v).capped = true ↔
    a.capped = true ∨ ∃ q, v.get q ≠ none ∧ 4095 ≤ (a.acc.get q).count := by
  simp only [BinAcc.addRecord, Bool.or_eq_true, Acc.refuses_iff, or_assoc]
  refine or_congr Iff.rfl ⟨?_, ?_⟩
  · rintro (h | h | h)
    exacts [⟨.mass, h⟩, ⟨.water, h⟩, ⟨.cal, h⟩]
  · rintro ⟨q, h⟩
    cases q
    exacts [.inl h, .inr (.inl h), .inr (.inr h)]

section
variable {s : State} {sc : ScanRecord} {r : SampleRecord} {b : Nat}

/-- Beside the bins the engine stays as it is. -/
theorem binRecord_eng_rest (r : SampleRecord) (s : State) :
    { (binRecord r s).eng with accs := s.eng.accs, openBin := s.eng.openBin, binsDone := s.eng.binsDone } = s.eng := by
  have marked (x : State) :
      { (markLoss r.loss x).eng with accs := s.eng.accs, openBin := s.eng.openBin, binsDone := s.eng.binsDone } =
        { x.eng with accs := s.eng.accs, openBin := s.eng.openBin, binsDone := s.eng.binsDone } := by
    rw [markLoss_eng]
    exact congrArg (fun e : Engine => { e with accs := s.eng.accs, openBin := s.eng.openBin, binsDone := s.eng.binsDone })
      (markGap_rest r.loss x.eng)
  cases hsc : s.prof.openScan with
  | none => simp [binRecord, hsc]
  | some sc =>
    cases hb : recordBin sc r with
    | none => rw [binRecord_outside hsc hb, marked]
    | some b =>
      by_cases h : Enters sc s.eng.openBin b
      · rw [binRecord_enters hsc hb h, marked, enterBin_eng hsc]
      · simp only [Enters, not_forall, not_or] at h
        obtain ⟨o, ho, hne, ha⟩ := h
        rw [binRecord_behind hsc hb ho hne ha, marked]

/-- The bins once a record has entered bin `b` (R44, R67, R68). -/
structure EnteredBin (s t : State) (sc : ScanRecord) (r : SampleRecord) (b : Nat) : Prop where
  openBin : t.eng.openBin = some b
  others : ∀ i, i ≠ b → t.eng.accs.getD i BinAcc.zero = s.eng.accs.getD i BinAcc.zero
  entered : t.eng.accs.getD b BinAcc.zero =
    let a := (s.eng.accs.getD b BinAcc.zero).addRecord r.value
    { a with gap := a.gap || r.loss }
  binsDone : t.eng.binsDone = s.eng.binsDone + binsClosed sc s.eng.openBin b
  openScan : t.prof.openScan =
    some { readOut sc s.eng b with sampleLoss := (readOut sc s.eng b).sampleLoss || r.loss }

theorem binRecord_entered (hsc : s.prof.openScan = some sc) (hb : recordBin sc r = some b) (h : Enters sc s.eng.openBin b)
    (hlt : b < s.eng.accs.length) : EnteredBin s (binRecord r s) sc r b := by
  have heng := enterBin_eng hsc b r.value
  rw [binRecord_enters hsc hb h]
  constructor
  case openBin => rw [markLoss_eng, markGap_openBin, heng]
  case others =>
    intro i hi
    rw [markLoss_eng, markGap_other (b := b) _ _ (by rw [heng]) hi, heng]
    exact getD_modify_ne hi ..
  case entered =>
    rw [markLoss_eng, markGap_marked (b := b) _ _ (by rw [heng]) (by simpa [heng] using hlt), heng]
    dsimp only
    rw [getD_modify_self hlt]
  case binsDone => rw [markLoss_eng, markGap_binsDone, heng]
  case openScan =>
    rw [markLoss_openScan (enterBin_openScan hsc b r.value), heng]
    simp

/-- The bins after a record that enters none: only the mark of a loss goes to the open bin (R44, R64, R69). -/
structure PassedBins (s t : State) (sc : ScanRecord) (r : SampleRecord) : Prop where
  openBin : t.eng.openBin = s.eng.openBin
  binsDone : t.eng.binsDone = s.eng.binsDone
  acc : ∀ i, (t.eng.accs.getD i BinAcc.zero).acc = (s.eng.accs.getD i BinAcc.zero).acc
  marked : ∀ o, s.eng.openBin = some o → o < s.eng.accs.length → r.loss = true → (t.eng.accs.getD o BinAcc.zero).gap = true
  openScan : t.prof.openScan = some { sc with sampleLoss := sc.sampleLoss || (r.loss && s.eng.openBin.isSome) }

theorem markLoss_passed (hsc : s.prof.openScan = some sc) : PassedBins s (markLoss r.loss s) sc r := by
  constructor
  case openBin => rw [markLoss_eng, markGap_openBin]
  case binsDone => rw [markLoss_eng, markGap_binsDone]
  case acc => rw [markLoss_eng]; exact markGap_acc r.loss s.eng
  case marked =>
    intro o ho hlt hloss
    rw [markLoss_eng, markGap_marked _ _ ho hlt, hloss, Bool.or_true]
  case openScan => exact markLoss_openScan hsc r.loss

end

/-! ## States that differ where no line looks -/

/-- Two states with the same surround and the same blocks are the same. -/
theorem State.eq_of_surround {s t : State} (surround : t.surround = s.surround) (notices : t.notices = s.notices)
    (arbLast : t.arbLast = s.arbLast) (car : t.car = s.car) (eng : t.eng = s.eng) (prof : t.prof = s.prof) (std : t.std = s.std)
    (sheet : t.sheet = s.sheet) (alarm : t.alarm = s.alarm) (ord : t.ord = s.ord) : t = s := by
  cases s
  cases t
  simp_all [State.surround]

/-- The lines look at no head link, no record, no profile, no dwell and no sheet: an update of these blocks leaves settled lines. -/
theorem Settled.of_measured {s : State} (h : Settled s) (eng : Engine) (links : PerBeam Receiver) (sheet : SheetMonitor)
    (prof : ProfileEngine) (std : StdUnit) :
    Settled { s with eng := eng, links := links, sheet := sheet, prof := prof, std := std } :=
  h.update (fun s => { s with eng := eng, links := links, sheet := sheet, prof := prof, std := std }) rfl

/-! ## The record begun next -/

/-- The frame a record is formed from is the oldest held, where it bears the record's strobe (R39). -/
theorem Receiver.frameFor_eq (k : Word) (r : Receiver) : r.frameFor k = r.slots.head?.filter fun h => h.strobe == k := by
  unfold Receiver.frameFor
  cases r.slots <;> simp [Option.filter]

/-- A reading is present where its frame is there with the READY bit set (R41). -/
theorem reading_eq_some_iff {f : Option HeldFrame} {ready : Nat} {v : HeldFrame → Half} {x : Nat} :
    reading f ready v = some x ↔ ∃ h, f = some h ∧ h.status.getLsbD ready = true ∧ x = (v h).toNat := by
  cases f with
  | none => simp [reading]
  | some h => simp [reading, @eq_comm _ x]

/-- The skew test for caliper (R42). -/
theorem skewPasses_iff {f : Option FrameRecord} {d : Int} : skewPasses f d = true ↔ ∀ r, f = some r → d.natAbs ≤ r.skewCal := by
  cases f <;> simp [skewPasses]

/-- A loss limit reaches the record (R43). -/
theorem Receiver.loses_iff {k : Word} {r : Receiver} :
    r.loses k = true ↔ ∃ l, r.lossLimit = some l ∧ (l - k).toNat < 2147483648 := by
  unfold Receiver.loses
  cases r.lossLimit <;> simp [atOrBehind]

/-- What lets a record be begun (R39, R116, R134). -/
def MayForm (s : State) : Prop :=
  s.eng.forming = none ∧ s.sheet.sampleDue = false ∧ (∀ d, s.std.dwell = some d → d.ticks < d.stdDwell) ∧
    ∀ b, ((s.links.get b).settled - s.eng.nextStrobe).toNat < 2147483648

theorem dwellEnds_eq_false_iff {s : State} : dwellEnds s = false ↔ ∀ d, s.std.dwell = some d → d.ticks < d.stdDwell := by
  unfold dwellEnds
  cases s.std.dwell <;> simp

theorem bothSettled_iff {l : PerBeam Receiver} {k : Word} :
    bothSettled l k = true ↔ ∀ b, ((l.get b).settled - k).toNat < 2147483648 := by
  simp only [bothSettled, atOrBehind, Bool.and_eq_true, decide_eq_true_eq]
  exact ⟨fun h b => by cases b; exacts [h.1, h.2], fun h => ⟨h .upper, h .lower⟩⟩

/-- The record begun next is that of the oldest capture under the next strobe number. -/
theorem nextCapture_eq_some_iff {s : State} {c : Capture} : nextCapture s = some c ↔
    MayForm s ∧ (s.eng.captures.find? fun c => c.strobe == s.eng.nextStrobe) = some c := by
  simp only [nextCapture, MayForm, ← dwellEnds_eq_false_iff, ← bothSettled_iff]
  simp [and_assoc]

theorem nextCapture_strobe {s : State} {c : Capture} (h : nextCapture s = some c) : c.strobe = s.eng.nextStrobe := by
  simpa using List.find?_some (nextCapture_eq_some_iff.1 h).2

theorem exists_nextCapture_iff {s : State} :
    (∃ c, nextCapture s = some c) ↔ MayForm s ∧ ∃ c ∈ s.eng.captures, c.strobe = s.eng.nextStrobe := by
  simp only [nextCapture_eq_some_iff, exists_and_left]
  rw [← Option.isSome_iff_exists, List.find?_isSome]
  simp

/-! ## Beginning a record -/

/-- The state once a record has been begun: its frames and its capture have left (R39, R43). -/
def recordBegun (c : Capture) (s : State) : State :=
  { s with
    links := ⟨s.links.upper.release c.strobe, s.links.lower.release c.strobe⟩
    eng := { s.eng with
      forming := some (sampleRecord s c)
      captures := s.eng.captures.filter fun d => !(d.strobe == c.strobe) } }

theorem formRecord_eq (c : Capture) (s : State) :
    formRecord c s = routeRecord (sampleRecord s c) (judgeRecord (sampleRecord s c) (recordBegun c s)) := rfl

theorem recordBegun_link (c : Capture) (s : State) (b : Beam) :
    (recordBegun c s).links.get b = (s.links.get b).release c.strobe := by cases b <;> rfl

/-! ## Routing a record -/

/-- The binning logic changes the engine and the profile engine alone. -/
theorem binRecord_rest (r : SampleRecord) (s : State) : { binRecord r s with eng := s.eng, prof := s.prof } = s :=
  State.eq_of_surround (binRecord_surround r s) (binRecord_notices r s) (binRecord_arbLast r s) (binRecord_car r s) rfl rfl
    (binRecord_std r s) (binRecord_sheet r s) (binRecord_alarm r s) (binRecord_ord r s)

/-- A record is routed into the engine, the profile engine and the standardization unit alone. -/
theorem routeRecord_rest (r : SampleRecord) (s : State) :
    { routeRecord r s with eng := s.eng, prof := s.prof, std := s.std } = s := by
  unfold routeRecord
  split
  · exact congrArg (fun t : State => { t with std := s.std }) (binRecord_rest r s)
  all_goals rfl

theorem formRecord_rest (c : Capture) (s : State) :
    { formRecord c s with eng := s.eng, links := s.links, sheet := s.sheet, prof := s.prof, std := s.std } = s :=
  congrArg (fun t : State => { t with eng := s.eng, links := s.links, sheet := s.sheet })
    (routeRecord_rest (sampleRecord s c) (judgeRecord (sampleRecord s c) (recordBegun c s)))

/-- Forming a record leaves settled lines as they stand. -/
theorem settled_formRecord {s : State} (h : Settled s) (c : Capture) : Settled (formRecord c s) := by
  have hs := h.of_measured (formRecord c s).eng (formRecord c s).links (formRecord c s).sheet (formRecord c s).prof (formRecord c s).std
  have hrest := congrArg (fun t : State => { t with
    eng := (formRecord c s).eng, links := (formRecord c s).links, sheet := (formRecord c s).sheet,
    prof := (formRecord c s).prof, std := (formRecord c s).std }) (formRecord_rest c s)
  exact (show formRecord c s = _ from hrest) ▸ hs

theorem whenRunning_of {s : State} (h : s.phase = .running) (f : State → State) : whenRunning s f = f s := by
  simp only [whenRunning, h]

theorem exec_formSampleRecord {s : State} {c : Capture} (h : Settled s) (hrun : s.phase = .running) (hc : nextCapture s = some c) :
    exec .formSampleRecord s = .next (formRecord c s) := by
  show done (whenRunning s _) = _
  rw [whenRunning_of hrun, hc]
  exact congrArg Host.Outcome.next (settled_formRecord h c)

theorem exec_formSampleRecord_none {s : State} (h : Settled s) (hrun : s.phase = .running) (hc : nextCapture s = none) :
    exec .formSampleRecord s = .next s := by
  show done (whenRunning s _) = _
  rw [whenRunning_of hrun, hc]
  exact congrArg Host.Outcome.next h

section
variable {r : SampleRecord} {s : State}

theorem routeRecord_standardizing (h : s.car.traverse.isStandardizing = true) : routeRecord r s = addToDwell r s := by
  unfold routeRecord
  revert h
  cases s.car.traverse <;> simp [Traverse.isStandardizing]

theorem routeRecord_std (h : s.car.traverse.isStandardizing = false) : (routeRecord r s).std = s.std := by
  unfold routeRecord
  split
  · exact binRecord_std r s
  · next hs => simp [hs, Traverse.isStandardizing] at h
  all_goals rfl

theorem routeRecord_point (h : s.car.traverse = .probing true ∨ ∃ p, s.car.traverse = .singlePoint p) :
    routeRecord r s = addToPoint r s := by
  unfold routeRecord
  obtain h | ⟨p, h⟩ := h <;> simp [h]

theorem routeRecord_scanning (h : s.car.traverse.isScanning = true) : routeRecord r s = binRecord r s := by
  unfold routeRecord
  revert h
  cases s.car.traverse <;> simp [Traverse.isScanning]

theorem routeRecord_unscanned (h : s.car.traverse.isScanning = false) :
    (routeRecord r s).prof = s.prof ∧ { (routeRecord r s).eng with pointAcc := s.eng.pointAcc } = s.eng := by
  unfold routeRecord
  split
  · next hs => simp [hs, Traverse.isScanning] at h
  all_goals exact ⟨rfl, rfl⟩

end

/-! ## The break detector -/

theorem watchesSheet_iff {t : Traverse} : t.watchesSheet = true ↔ t.isScanning = true ∨ ∃ p, t = .singlePoint p := by
  cases t <;> simp [Traverse.watchesSheet, Traverse.isScanning]

/-- The on-sheet window: from the first edge's bin to the last one's, or, without edges, the whole bin span (R132). -/
theorem insideWindow_iff {s : State} {pos : Nat} : insideWindow s pos = true ↔ ∃ f, s.car.frame = some f ∧
    (∀ e, s.prof.edges = some e → f.bin0Pos + e.tend * f.binW ≤ pos ∧ pos ≤ f.bin0Pos + (e.drive + 1) * f.binW - 1) ∧
    (s.prof.edges = none → f.bin0Pos ≤ pos ∧ pos ≤ f.bin0Pos + f.nbins * f.binW - 1) := by
  unfold insideWindow
  cases s.car.frame with
  | none => simp
  | some f =>
    simp only [Bool.and_eq_true, decide_eq_true_eq, Option.some.injEq, exists_eq_left']
    cases s.prof.edges <;> simp [sheetWindow]

/-- The detector judges the record: its traverse state and its place say so (R132, R133). -/
def watchedRecord (s : State) (r : SampleRecord) : Bool := s.car.traverse.watchesSheet && insideWindow s r.pos

section
variable {s : State} {r : SampleRecord}

theorem nextLowRun_unwatched (h : watchedRecord s r = false) : nextLowRun s r = 0 := by
  rw [watchedRecord] at h
  simp [nextLowRun, h]

theorem nextLowRun_absent (h : watchedRecord s r = true) (hm : r.value.mass = none) : nextLowRun s r = s.sheet.lowRun := by
  rw [watchedRecord] at h
  simp [nextLowRun, h, hm]

theorem nextLowRun_present {m : Nat} (h : watchedRecord s r = true) (hm : r.value.mass = some m) :
    nextLowRun s r = if m < s.sheet.settings.breakThreshold then bump255 s.sheet.lowRun else 0 := by
  rw [watchedRecord] at h
  simp [nextLowRun, h, hm]

theorem isLow_iff : isLow s r = true ↔
    watchedRecord s r = true ∧ ∃ m, r.value.mass = some m ∧ m < s.sheet.settings.breakThreshold := by
  rw [isLow, ← watchedRecord]
  cases r.value.mass <;> simp

end

/-! ## The formed record -/

section
variable (c : Capture) (s : State)

theorem formRecord_links : (formRecord c s).links = (recordBegun c s).links :=
  congrArg Surround.links (routeRecord_surround (sampleRecord s c) (judgeRecord (sampleRecord s c) (recordBegun c s)))

theorem routeRecord_sheet (r : SampleRecord) : (routeRecord r s).sheet = s.sheet :=
  (congrArg State.sheet (routeRecord_rest r s) :)

/-- A formed record is judged on the sheet as it stood (R133, R134). -/
theorem formRecord_sheet : (formRecord c s).sheet = { s.sheet with
    lowRun := nextLowRun s (sampleRecord s c)
    sampleDue := isLow s (sampleRecord s c) && decide (s.sheet.settings.breakRun ≤ nextLowRun s (sampleRecord s c)) } :=
  routeRecord_sheet ..

/-- Beside the bins and the point accumulators, routing leaves the engine as it is. -/
theorem routeRecord_eng_rest (r : SampleRecord) : { (routeRecord r s).eng with
    accs := s.eng.accs, openBin := s.eng.openBin, binsDone := s.eng.binsDone, pointAcc := s.eng.pointAcc } = s.eng := by
  cases h : s.car.traverse.isScanning
  · exact congrArg (fun e : Engine => { e with accs := s.eng.accs, openBin := s.eng.openBin, binsDone := s.eng.binsDone })
      (routeRecord_unscanned h).2
  · rw [routeRecord_scanning h]
    exact congrArg (fun e : Engine => { e with pointAcc := s.eng.pointAcc }) (binRecord_eng_rest r s)

theorem routeRecord_pointAcc (r : SampleRecord) (hp : s.car.traverse ≠ .probing true)
    (hs : ∀ p, s.car.traverse ≠ .singlePoint p) : (routeRecord r s).eng.pointAcc = s.eng.pointAcc := by
  unfold routeRecord
  split
  · exact (congrArg Engine.pointAcc (binRecord_eng_rest r s) :)
  · rfl
  · next p h => exact absurd h (hs p)
  · next h => exact absurd h hp
  all_goals rfl

/-- What forming changes of the engine beside the bins and the point accumulators: the record being formed and the captures. -/
theorem formRecord_eng_rest : { (formRecord c s).eng with
    accs := s.eng.accs, openBin := s.eng.openBin, binsDone := s.eng.binsDone, pointAcc := s.eng.pointAcc } =
    (recordBegun c s).eng :=
  routeRecord_eng_rest (judgeRecord (sampleRecord s c) (recordBegun c s)) (sampleRecord s c)

theorem formRecord_forming : (formRecord c s).eng.forming = some (sampleRecord s c) :=
  (congrArg Engine.forming (formRecord_eng_rest c s) :)

theorem formRecord_captures : (formRecord c s).eng.captures = s.eng.captures.filter fun d => !(d.strobe == c.strobe) :=
  (congrArg Engine.captures (formRecord_eng_rest c s) :)

theorem formRecord_nextStrobe : (formRecord c s).eng.nextStrobe = s.eng.nextStrobe :=
  (congrArg Engine.nextStrobe (formRecord_eng_rest c s) :)

end

/-- A converted value of each present reading, in its own channel (R53). -/
theorem convertRecord_get (cal : Per3 CalRecord) (raw : Per3 (Option Nat)) (q : Channel) :
    (convertRecord cal raw).get q = (raw.get q).map (convert (cal.get q)) := by cases q <;> rfl

/-- Caliper is present where the skew test passes too (R42). -/
theorem rawReadings_cal_iff {s : State} {c : Capture} {v : Nat} : (rawReadings s c).cal = some v ↔
    ∃ h, s.links.lower.frameFor c.strobe = some h ∧ h.status.getLsbD 7 = true ∧ v = h.first.toNat ∧
      ∀ f, s.car.frame = some f → c.skew.natAbs ≤ f.skewCal := by
  simp only [rawReadings, Option.ite_none_right_eq_some, skewPasses_iff, reading_eq_some_iff]
  tauto

theorem addRecord_eq (a : Per3 Acc) (v : Per3 (Option Nat)) :
    addRecord a v = Per3.ofFn fun q => (a.get q).addOpt (v.get q) := rfl

/-- A record taken makes way for the next strobe's (R39). -/
theorem exec_recordTaken {s : State} {r : SampleRecord} (h : Settled s) (hrun : s.phase = .running)
    (hr : s.eng.forming = some r) : exec .recordTaken s =
      .next { s with eng := { s.eng with forming := none, nextStrobe := s.eng.nextStrobe + 1 } } := by
  show done (whenRunning s _) = _
  rw [whenRunning_of hrun, hr]
  exact congrArg Host.Outcome.next (h.of_measured { s.eng with forming := none, nextStrobe := s.eng.nextStrobe + 1 }
    s.links s.sheet s.prof s.std)

/-- The judgement of a record in the words of R132 to R134. -/
theorem formRecord_judges (c : Capture) (s : State) :
    let r := sampleRecord s c
    let t := formRecord c s
    (watchedRecord s r = false → t.sheet.lowRun = 0) ∧
    (watchedRecord s r = true → r.value.mass = none → t.sheet.lowRun = s.sheet.lowRun) ∧
    (∀ m, watchedRecord s r = true → r.value.mass = some m → s.sheet.settings.breakThreshold ≤ m → t.sheet.lowRun = 0) ∧
    (∀ m, watchedRecord s r = true → r.value.mass = some m → m < s.sheet.settings.breakThreshold →
      t.sheet.lowRun = bump255 s.sheet.lowRun) ∧
    (t.sheet.sampleDue = true ↔ watchedRecord s r = true ∧
      ∃ m, r.value.mass = some m ∧ m < s.sheet.settings.breakThreshold ∧ s.sheet.settings.breakRun ≤ t.sheet.lowRun) ∧
    { t.sheet with lowRun := s.sheet.lowRun, sampleDue := s.sheet.sampleDue } = s.sheet := by
  intro r t
  have hsheet : t.sheet = _ := formRecord_sheet c s
  rw [hsheet]
  refine ⟨nextLowRun_unwatched, nextLowRun_absent, fun m hw hm hle => ?_, fun m hw hm hlt => ?_, ?_, rfl⟩
  · exact (nextLowRun_present hw hm).trans (if_neg (Nat.not_lt.2 hle))
  · exact (nextLowRun_present hw hm).trans (if_pos hlt)
  · simp only [Bool.and_eq_true, decide_eq_true_eq, isLow_iff]
    constructor
    · rintro ⟨⟨hw, m, hm, hlt⟩, hrun⟩
      exact ⟨hw, m, hm, hlt, hrun⟩
    · rintro ⟨hw, m, hm, hlt, hrun⟩
      exact ⟨⟨hw, m, hm, hlt⟩, hrun⟩

/-- Settles O31: `formRecord` part by part, the record begun, the detector's judgement, and the routing by traverse state. -/
theorem recordsAreFormedAndRouted : Obligations.RecordsAreFormedAndRouted := by
  unfold Obligations.RecordsAreFormedAndRouted
  refine ⟨⟨fun s hset hrun => ?begins, fun s c hset hrun hc => ?formed⟩, fun s c hset hrun hc => ?routed⟩
  case begins =>
    intro ready
    have hready : (∃ c, nextCapture s = some c) ↔ ready := by
      rw [exists_nextCapture_iff]
      simp only [MayForm, and_assoc, ready]
    refine ⟨hready, fun hnot => exec_formSampleRecord_none hset hrun ?_⟩
    rw [← hready, ← Option.ne_none_iff_exists', not_not] at hnot
    exact hnot
  case formed =>
    intro held lost
    obtain ⟨⟨hforming, -, -, hsettled⟩, -⟩ := nextCapture_eq_some_iff.1 hc
    have hstrobe := nextCapture_strobe hc
    have hheld (q : Receiver) : held q = q.frameFor c.strobe := (Receiver.frameFor_eq c.strobe q).symm
    refine ⟨hstrobe, hforming, hstrobe ▸ hsettled, formRecord c s, sampleRecord s c, exec_formSampleRecord hset hrun hc,
      formRecord_forming c s, rfl, rfl, rfl, rfl, fun v => ?mass, fun v => ?water, fun v => ?cal,
      convertRecord_get s.eng.cal (rawReadings s c), ?loss, fun d => ?captures, fun b => ?slots, fun b => ?lossLimit, ?eng,
      formRecord_rest c s⟩
    case mass => rw [hheld]; exact reading_eq_some_iff
    case water => rw [hheld]; exact reading_eq_some_iff
    case cal => rw [hheld]; exact rawReadings_cal_iff
    case loss => simp only [sampleRecord, Bool.or_eq_true, Receiver.loses_iff, lost]
    case captures => rw [formRecord_captures]; simp
    case slots => rw [formRecord_links, recordBegun_link, hheld]; rfl
    case lossLimit => rw [formRecord_links, recordBegun_link]; rfl
    case eng =>
      exact congrArg (fun e : Engine => { e with forming := s.eng.forming, captures := s.eng.captures })
        (formRecord_eng_rest c s)
  case routed =>
    refine ⟨formRecord c s, sampleRecord s c, exec_formSampleRecord hset hrun hc, formRecord_forming c s, ?accumulators, ?offBins, ?judged,
      ?taken⟩
    case taken =>
      refine ⟨_, exec_recordTaken (settled_formRecord hset c) ((formRecord_phase c s).trans hrun) (formRecord_forming c s), ?_, rfl⟩
      rw [formRecord_nextStrobe]
    case offBins =>
      intro hoff
      obtain ⟨hprof, heng⟩ := routeRecord_unscanned (r := sampleRecord s c) (s := judgeRecord (sampleRecord s c) (recordBegun c s)) hoff
      exact ⟨hprof, (congrArg Engine.accs heng :), (congrArg Engine.openBin heng :), (congrArg Engine.binsDone heng :)⟩
    case accumulators =>
      intro put
      refine ⟨fun h => ?_, fun h => ?_, fun h => ?_, fun hp hs => ?_⟩
      · rw [formRecord_eq, routeRecord_standardizing (s := judgeRecord _ (recordBegun c s)) h]
        rfl
      · exact routeRecord_std h
      · rw [formRecord_eq, routeRecord_point (s := judgeRecord _ (recordBegun c s)) h]
        rfl
      · exact routeRecord_pointAcc _ _ hp hs
    case judged =>
      intro inside watched
      have hw : watchedRecord s (sampleRecord s c) = true ↔ watched := by
        rw [watchedRecord, Bool.and_eq_true, watchesSheet_iff, insideWindow_iff]
      have hnw : watchedRecord s (sampleRecord s c) = false ↔ ¬watched := by
        rw [← hw, Bool.not_eq_true]
      rw [← hnw, ← hw]
      exact formRecord_judges c s

/-! ## Records in SCANNING -/

/-- VALID where the condition holds, THIN where not (R71). -/
theorem validOrThin_of_iff {v : Bool} {p : Prop} (h : v = true ↔ p) :
    (p → validOrThin v = .valid) ∧ (¬p → validOrThin v = .thin) := by
  rw [← h]
  cases v <;> simp [validOrThin]

/-- The states a closed bin is read out with: a channel by its count, a derived profile by both counts and its value (R71, R72). -/
theorem binResult_states (binMin : Nat) (a : BinAcc) :
    let x := binResult binMin a
    let full : Channel → Prop := fun q => binMin ≤ (a.acc.get q).count
    ((full .mass → x.state.mass = .valid) ∧ (¬full .mass → x.state.mass = .thin)) ∧
    ((full .cal → x.state.cal = .valid) ∧ (¬full .cal → x.state.cal = .thin)) ∧
    ((full .mass ∧ full .water ∧ x.value.moist ≠ none → x.state.moist = .valid) ∧
      (¬(full .mass ∧ full .water ∧ x.value.moist ≠ none) → x.state.moist = .thin)) ∧
    (full .mass ∧ full .water ∧ x.value.dry ≠ none → x.state.dry = .valid) ∧
      (¬(full .mass ∧ full .water ∧ x.value.dry ≠ none) → x.state.dry = .thin) := by
  intro x full
  have derived (v : Option Nat) : (decide (full .mass) && decide (full .water) && v.isSome) = true ↔
      full .mass ∧ full .water ∧ v ≠ none := by
    simp only [Bool.and_eq_true, decide_eq_true_eq, Option.ne_none_iff_isSome, and_assoc]
  exact ⟨validOrThin_of_iff decide_eq_true_iff, validOrThin_of_iff decide_eq_true_iff, validOrThin_of_iff (derived _),
    validOrThin_of_iff (derived _)⟩

/-- A record in a bin ahead has the open bin read out into the scan record (R68, R70). -/
theorem readOut_ahead {sc : ScanRecord} {eng : Engine} {b o : Nat} (ho : eng.openBin = some o) (hne : o ≠ b) :
    readOut sc eng b =
      { sc with results := sc.results.set o (binResult sc.settings.binMin (eng.accs.getD o BinAcc.zero)) } := by
  simp [readOut, ho, hne]

/-- With no bin left behind nothing is read out. -/
theorem readOut_stays {sc : ScanRecord} {eng : Engine} {b : Nat} (h : ∀ o, eng.openBin = some o → o = b) :
    readOut sc eng b = sc := by
  unfold readOut
  split
  · rfl
  · next o ho => exact if_pos (h o ho)

/-- No bin is ahead of itself. -/
theorem isAhead_ne {dir : Direction} {b o : Nat} (h : isAhead dir b o = true) : o ≠ b := by
  cases dir <;> simp [isAhead] at h <;> omega

section
variable {s : State} {c : Capture} {sc : ScanRecord}

theorem formRecord_scanning (h : s.car.traverse.isScanning = true) : formRecord c s =
    binRecord (sampleRecord s c) (judgeRecord (sampleRecord s c) (recordBegun c s)) :=
  routeRecord_scanning (s := judgeRecord _ (recordBegun c s)) h

/-- In SCANNING a record in the span enters its bin where the order of travel lets it (R66 to R69). -/
theorem formRecord_entered (hscan : s.car.traverse.isScanning = true) (hsc : s.prof.openScan = some sc) (hw : 0 < sc.map.binW)
    (hlen : s.eng.accs.length = sc.map.nbins) (hin : InSpan sc (sampleRecord s c))
    (h : Enters sc s.eng.openBin (((sampleRecord s c).pos - sc.map.bin0Pos) / sc.map.binW)) :
    EnteredBin s (formRecord c s) sc (sampleRecord s c) (((sampleRecord s c).pos - sc.map.bin0Pos) / sc.map.binW) := by
  have hentered := binRecord_entered (s := judgeRecord (sampleRecord s c) (recordBegun c s)) hsc (recordBin_inSpan hw hin) h
    ((hin.bin_lt hw).trans_eq hlen.symm)
  rw [formRecord_scanning hscan]
  exact { hentered with }

/-- In SCANNING a record outside the span, or behind the open bin, enters none (R64, R69). -/
theorem formRecord_passed (hscan : s.car.traverse.isScanning = true) (hsc : s.prof.openScan = some sc) (hw : 0 < sc.map.binW)
    (h : ¬InSpan sc (sampleRecord s c) ∨
      ¬Enters sc s.eng.openBin (((sampleRecord s c).pos - sc.map.bin0Pos) / sc.map.binW)) :
    PassedBins s (formRecord c s) sc (sampleRecord s c) := by
  have hpassed : PassedBins _ (markLoss _ (judgeRecord (sampleRecord s c) (recordBegun c s))) sc (sampleRecord s c) :=
    markLoss_passed hsc
  have hbin : formRecord c s = markLoss (sampleRecord s c).loss (judgeRecord (sampleRecord s c) (recordBegun c s)) := by
    rw [formRecord_scanning hscan]
    by_cases hin : InSpan sc (sampleRecord s c)
    · have hb := h.resolve_left (not_not.2 hin)
      simp only [Enters, not_forall, not_or] at hb
      obtain ⟨o, ho, hne, ha⟩ := hb
      exact binRecord_behind hsc (recordBin_inSpan hw hin) ho hne ha
    · exact binRecord_outside hsc (recordBin_outside hw hin)
  rw [hbin]
  exact { hpassed with }

end

/-- Settles O32: the record either enters its bin (`EnteredBin`) or passes the bins (`PassedBins`), by its place and the open bin. -/
theorem recordsEnterTheirBins : Obligations.RecordsEnterTheirBins := by
  unfold Obligations.RecordsEnterTheirBins
  intro s c sc hset hrun hc hscan hsc hw hlen hopen
  refine ⟨formRecord c s, sampleRecord s c, exec_formSampleRecord hset hrun hc, formRecord_forming c s, ?_⟩
  intro inSpan b ahead put full before
  have hahead (o : Nat) : isAhead sc.dir b o = true ↔ ahead o := isAhead_iff
  have hent : inSpan → Enters sc s.eng.openBin b → EnteredBin s (formRecord c s) sc (sampleRecord s c) b :=
    formRecord_entered hscan hsc hw hlen
  have hpass : ¬inSpan ∨ ¬Enters sc s.eng.openBin b → PassedBins s (formRecord c s) sc (sampleRecord s c) :=
    formRecord_passed hscan hsc hw
  have henters {o : Nat} (ho : s.eng.openBin = some o) (h : o = b ∨ ahead o) : Enters sc s.eng.openBin b := by
    intro o' ho'
    rw [ho, Option.some.injEq] at ho'
    exact ho' ▸ h.imp_right (hahead o).2
  have hnone (ho : s.eng.openBin = none) : Enters sc s.eng.openBin b := by simp [Enters, ho]
  refine ⟨fun hin hb => ?enters, fun hin ho => ?own, fun o hin ho ha => ?skips, fun hin ho => ?first, fun h => ?passes,
    fun hl hne => ?loss, fun hnot => ?stays, fun o hin ho ha => ?readOut⟩
  case enters =>
    have h := hent hin fun o ho => (hb o ho).imp_right (hahead o).2
    refine ⟨h.openBin, h.others, ?_, ?_, ?_⟩
    · rw [h.entered]
      rfl
    · rw [h.entered]
      exact BinAcc.addRecord_capped
    · rw [h.entered]
      exact Bool.or_eq_true_iff
  case own =>
    rw [(hent hin (henters ho (.inl rfl))).binsDone, ho]
    simp [binsClosed, distance]
  case skips =>
    rw [(hent hin (henters ho (.inr ha))).binsDone, ho]
    rfl
  case first =>
    rw [(hent hin (hnone ho)).binsDone, ho, binsClosed, travelIndex_eq]
  case passes =>
    have hp := hpass (h.imp_right fun ⟨o, ho, hne, ha⟩ hE => (hE o ho).elim hne fun h => ha ((hahead o).1 h))
    exact ⟨hp.openBin, hp.binsDone, hp.acc, fun o ho => hp.marked o ho (hlen ▸ hopen o ho)⟩
  case loss =>
    by_cases h : inSpan ∧ Enters sc s.eng.openBin b
    · exact ⟨_, (hent h.1 h.2).openScan, by simp [hl]⟩
    · have hp := hpass (not_and_or.1 h)
      rw [hp.openBin, Option.ne_none_iff_isSome] at hne
      exact ⟨_, hp.openScan, by simp [hl, hne]⟩
  case stays =>
    by_cases h : inSpan ∧ Enters sc s.eng.openBin b
    · refine ⟨_, (hent h.1 h.2).openScan, ?_⟩
      rw [readOut_stays fun o ho => (h.2 o ho).resolve_right fun ha => hnot ⟨h.1, o, ho, (hahead o).1 ha⟩]
    · exact ⟨_, (hpass (not_and_or.1 h)).openScan, rfl⟩
  case readOut =>
    refine ⟨_, binResult sc.settings.binMin (s.eng.accs.getD o BinAcc.zero), (hent hin (henters ho (.inr ha))).openScan, ?_, ?_⟩
    · rw [readOut_ahead ho (isAhead_ne ((hahead o).2 ha))]
    · obtain ⟨⟨hm, hm'⟩, ⟨hc, hc'⟩, ⟨hmo, hmo'⟩, hd, hd'⟩ :=
        binResult_states sc.settings.binMin (s.eng.accs.getD o BinAcc.zero)
      exact ⟨rfl, rfl, rfl, rfl, rfl, rfl, hm, hm', hc, hc', hmo, hmo', hd, hd'⟩

end Sys2Proof.Machine
end

section
/-! PROOFS. Chapter 03, conversion and calibration: the conversion and the derived quantities (O33), and the settings orders SET_CAL,
SET_PROFILE and RESEED (O50). -/

namespace Sys2Proof.Machine

open Sys2Proof

/-! ## Rounding and clamping -/

/-- Half up, the product of quotient and divisor lies at most half a divisor above the number and less than half a divisor below
it. -/
theorem divHalfUp_bounds (n : Nat) {d : Nat} (hd : 0 < d) :
    2 * (d * divHalfUp n d) ≤ 2 * n + d ∧ 2 * n < 2 * (d * divHalfUp n d) + d := by
  have hdiv : d * divHalfUp n d + (n + d / 2) % d = n + d / 2 := Nat.div_add_mod _ _
  have hmod : (n + d / 2) % d < d := Nat.mod_lt _ hd
  omega

/-- Away from zero, the magnitude is rounded half up and the sign is the number's own. -/
theorem roundAway_eq (p : Int) (d : Nat) :
    roundAway p d = if p < 0 then -(divHalfUp p.natAbs d : Int) else divHalfUp p.natAbs d := rfl

theorem roundAway_natAbs (p : Int) (d : Nat) : (roundAway p d).natAbs = divHalfUp p.natAbs d := by
  rw [roundAway_eq]
  split
  · rw [Int.natAbs_neg, Int.natAbs_natCast]
  · rw [Int.natAbs_natCast]

/-- What "to nearest with ties away from zero" says of a quotient: it is off by half a divisor at most, and where it is off by just
that, its product with the divisor has the larger magnitude (00, R54). -/
theorem roundAway_nearest (p : Int) {d : Nat} (hd : 0 < d) :
    2 * (p - d * roundAway p d).natAbs ≤ d ∧
    (2 * (p - d * roundAway p d).natAbs = d → p.natAbs ≤ (d * roundAway p d).natAbs) := by
  obtain ⟨hle, hlt⟩ := divHalfUp_bounds p.natAbs hd
  have hcast : (d : Int) * (divHalfUp p.natAbs d : Int) = (d * divHalfUp p.natAbs d : Nat) := (Nat.cast_mul _ _).symm
  rw [roundAway_eq]
  split
  · rw [mul_neg, hcast]
    omega
  · rw [hcast]
    omega

theorem clampHalf_eq (v : Int) : (clampHalf v : Int) = max 0 (min 65535 v) := by
  unfold clampHalf
  split
  · omega
  · split <;> omega

/-! ## Conversion (R54) -/

/-- The product of R54's step 2. -/
def calProduct (c : CalRecord) (r : Nat) : Int := ((r : Int) - c.zero) * c.values.gain

theorem convert_eq (c : CalRecord) (r : Nat) :
    (convert c r : Int) = max 0 (min 65535 (roundAway (calProduct c r) 16384 + c.values.offset)) :=
  clampHalf_eq _

/-- The magnitudes that R54 states for the difference, the product and the scaled value of halves. -/
theorem conversion_magnitudes {c : CalRecord} {r : Nat} (hr : r ≤ 65535) (hz : c.zero ≤ 65535) (hg : c.values.gain ≤ 65535) :
    ((r : Int) - c.zero).natAbs ≤ 65535 ∧ (calProduct c r).natAbs ≤ 4294836225 ∧
    (roundAway (calProduct c r) 16384).natAbs ≤ 262136 := by
  have hd : ((r : Int) - c.zero).natAbs ≤ 65535 := by omega
  have hp : (calProduct c r).natAbs ≤ 4294836225 := by
    rw [calProduct, Int.natAbs_mul, Int.natAbs_natCast]
    exact Nat.mul_le_mul hd hg
  refine ⟨hd, hp, ?_⟩
  rw [roundAway_natAbs, divHalfUp]
  omega

/-! ## Derived quantities (R55, R56) -/

/-- Over a positive mass mean the moisture ratio is present, rounded half up and clamped (R55). -/
theorem deriveMoist_of_pos {m : Nat} (h : 0 < m) (w : Nat) :
    deriveMoist (some m) (some w) = some (min ((w * 10000 + m / 2) / m) 10000) :=
  if_neg h.ne'

theorem deriveMoist_zero (w : Nat) : deriveMoist (some 0) (some w) = none := rfl

theorem deriveMoist_le {m w v : Nat} (h : deriveMoist (some m) (some w) = some v) : v ≤ 10000 := by
  rcases m.eq_zero_or_pos with rfl | hm
  · rw [deriveMoist_zero] at h
    cases h
  · rw [deriveMoist_of_pos hm] at h
    cases h
    exact min_le_right _ _

theorem zeroBase_iff {m w : Nat} : zeroBase (some m) (some w) = true ↔ m = 0 := decide_eq_true_iff

/-- Where a mean is absent nothing is derived and ZERO_BASE is not set (R55, R56). -/
theorem derived_absent {x y : Option Nat} (h : x = none ∨ y = none) :
    deriveMoist x y = none ∧ zeroBase x y = false ∧ deriveDry x y = none := by
  rcases h with rfl | rfl
  · exact ⟨rfl, rfl, rfl⟩
  · cases x <;> exact ⟨rfl, rfl, rfl⟩

/-- Settles O33: the scaled value is the model's own rounded quotient, and the derived quantities follow case by case. -/
theorem conversionAndDerivedQuantities : Obligations.ConversionAndDerivedQuantities := by
  unfold Obligations.ConversionAndDerivedQuantities
  refine ⟨fun c r => ?conversion, fun m w => ?derived⟩
  case conversion =>
    obtain ⟨hnear, htie⟩ := roundAway_nearest (calProduct c r) (d := 16384) (by decide)
    exact ⟨roundAway (calProduct c r) 16384, hnear, htie, convert_eq c r, conversion_magnitudes⟩
  case derived =>
    exact ⟨fun hm => deriveMoist_of_pos hm w, deriveMoist_zero w, zeroBase_iff, fun _ _ => derived_absent, rfl,
      fun _ => deriveMoist_le⟩

/-! ## SET_CAL, SET_PROFILE and RESEED -/

section
variable {s : State} {c : Instr} {slot : Slot} {o : Order} {k : ResultCode} {v : Word}

/-- An order that the measurement engine answers at once leaves the engine's change and the answer. -/
theorem leaves_onEng (f : Engine → Engine) (hs : CardFree s slot) (hp : Passes slot o) (hc : exec c s = done (deliver slot o s))
    (hh : ∀ u : State, u.car = s.car → handOver slot o u = answer slot k v (u.onEng f)) :
    ∃ t, exec c s = .next t ∧ OrderLeaves s t slot o [answerOf slot k v] (s.onEng f) :=
  leaves_now hs hp hc .orderUnit (hh _ (markTaken_car ..)) rfl

/-- An order that the profile engine answers at once leaves the engine's change and the answer; what the answer tells of the engine is
as it stood before. -/
theorem leaves_onProf (f : ProfileEngine → ProfileEngine) (hs : CardFree s slot) (hp : Passes slot o)
    (hc : exec c s = done (deliver slot o s))
    (hh : ∀ u : State, u.car = s.car → u.prof = s.prof → handOver slot o u = answer slot k v (u.onProf f)) :
    ∃ t, exec c s = .next t ∧ OrderLeaves s t slot o [answerOf slot k v] (s.onProf f) :=
  leaves_now hs hp hc .orderUnit (hh _ (markTaken_car ..) rfl) rfl

end

/-- The three numbers that R48's card gives a channel are in range and name it. -/
theorem orderInRange_setCal {n : Nat} {q : Channel} (v : CalValues)
    (h : n = 0 ∧ q = .mass ∨ n = 1 ∧ q = .water ∨ n = 2 ∧ q = .cal) :
    orderInRange (.setCal n v) = true ∧ channelOf n = q := by
  rcases h with ⟨rfl, rfl⟩ | ⟨rfl, rfl⟩ | ⟨rfl, rfl⟩ <;> exact ⟨rfl, rfl⟩

/-- In SCANNING the values wait as the channel's pending entry (R48). -/
theorem takeSetCal_scanning {s : State} (h : s.car.traverse.isScanning = true) (slot : Slot) (n : Nat) (v : CalValues) :
    takeSetCal slot n v s =
      answer slot .ok 1 (s.onEng fun e => { e with nextCal := e.nextCal.set (channelOf n) (some v) }) :=
  if_pos h

/-- In any other state they are applied at once (R48, R49). -/
theorem takeSetCal_atOnce {s : State} (h : s.car.traverse.isScanning = false) (slot : Slot) (n : Nat) (v : CalValues) :
    takeSetCal slot n v s = answer slot .ok 0 (s.onEng (applyCal (channelOf n) v)) :=
  if_neg (Bool.eq_false_iff.1 h)

/-- In SCANNING the record waits for the next traverse start (R88). -/
theorem takeSetProfile_scanning {s : State} (h : s.car.traverse.isScanning = true) (slot : Slot) (p : ProfileSettings) :
    takeSetProfile slot p s = answer slot .ok 1 (s.onProf fun e => { e with nextSettings := some p }) :=
  if_pos h

/-- In any other state it comes into force at once (R88). -/
theorem takeSetProfile_atOnce {s : State} (h : s.car.traverse.isScanning = false) (slot : Slot) (p : ProfileSettings) :
    takeSetProfile slot p s = answer slot .ok 0 (s.onProf fun e => { e with settings := p, nextSettings := none }) :=
  if_neg (Bool.eq_false_iff.1 h)

/-- The result value tells whether the flag was set already (R104). -/
theorem takeReseed_eq (slot : Slot) (s : State) :
    takeReseed slot s = answer slot .ok (if s.prof.reseed then 1 else 0) (s.onProf fun e => { e with reseed := true }) := by
  cases h : s.prof.reseed <;> simp [takeReseed, bit, h]

/-- Settles O50: each owner's answer and change by the traverse state, carried to the command by `leaves_onEng` and `leaves_onProf`. -/
theorem calibrationAndProfileSettings : Obligations.CalibrationAndProfileSettings := by
  unfold Obligations.CalibrationAndProfileSettings
  refine ⟨fun s slot n q v hs hslot hq => ?setCal, fun s slot p hs =>
    ⟨fun hp hscan => ?profilePending, fun hp hscan => ?profileInForce, fun hp => ?reseed⟩⟩
  case setCal =>
    obtain ⟨hr, rfl⟩ := orderInRange_setCal v hq
    have hp : Passes slot (.setCal n v) := passes_of hslot hr
    refine ⟨fun hscan => ?pending, fun hscan => ?applied⟩
    case pending => exact leaves_onEng _ hs hp rfl fun u hu => takeSetCal_scanning (hu ▸ hscan) slot n v
    case applied => exact leaves_onEng _ hs hp rfl fun u hu => takeSetCal_atOnce (hu ▸ hscan) slot n v
  case profilePending => exact leaves_onProf _ hs hp rfl fun u hu _ => takeSetProfile_scanning (hu ▸ hscan) slot p
  case profileInForce => exact leaves_onProf _ hs hp rfl fun u hu _ => takeSetProfile_atOnce (hu ▸ hscan) slot p
  case reseed =>
    refine leaves_onProf (fun e => { e with reseed := true }) hs hp rfl fun u _ hu => ?_
    rw [← hu]
    exact takeReseed_eq slot u

end Sys2Proof.Machine
end

section
/-! PROOFS. Chapter 04, bins, edges and scan close: what a close finds and what an ABORTED close lacks (O34). -/

namespace Sys2Proof.Machine

open Sys2Proof

@[simp] theorem Per4.get_ofFn {α : Type} (f : Profile → α) (q : Profile) : (Per4.ofFn f).get q = f q := by
  cases q <;> rfl

/-! ## Edges (R77) -/

theorem BinResult.candidate_iff {threshold : Nat} {r : BinResult} :
    r.candidate threshold = true ↔ r.state.mass = .valid ∧ ∃ m, r.value.mass = some m ∧ threshold ≤ m := by
  unfold BinResult.candidate
  cases r.value.mass <;> simp

/-- The indices are those that the list's entries carry, thinned to the entries that pass. -/
theorem indicesFrom_eq {α : Type} (p : α → Bool) (xs : List α) (k : Nat) :
    indicesFrom p xs k = ((xs.zipIdx k).filter fun x => p x.1).map Prod.snd := by
  induction xs generalizing k with
  | nil => rfl
  | cons x xs ih =>
    rw [indicesFrom, List.zipIdx_cons, List.filter_cons, ih]
    cases p x <;> rfl

theorem mem_indicesFrom_zero {α : Type} {p : α → Bool} {xs : List α} (dflt : α) {i : Nat} :
    i ∈ indicesFrom p xs 0 ↔ i < xs.length ∧ p (xs.getD i dflt) = true := by
  have hmem : i ∈ indicesFrom p xs 0 ↔ ∃ x, xs[i]? = some x ∧ p x = true := by
    simp [indicesFrom_eq, List.mk_mem_zipIdx_iff_getElem?]
  rw [hmem]
  by_cases hi : i < xs.length <;> simp [hi]

theorem indicesFrom_pairwise_lt {α : Type} (p : α → Bool) (xs : List α) (k : Nat) :
    (indicesFrom p xs k).Pairwise (· < ·) := by
  rw [indicesFrom_eq]
  have hall : ((xs.zipIdx k).map Prod.snd).Pairwise (· < ·) := by
    rw [List.zipIdx_map_snd]
    exact List.pairwise_lt_range' 1
  exact hall.sublist (List.filter_sublist.map _)

/-- In a rising list the first entry is the least and the last entry the greatest. -/
theorem pairwise_lt_bounds {b : Nat} {bs : List Nat} (h : (b :: bs).Pairwise (· < ·)) :
    (b :: bs).getLastD b ∈ b :: bs ∧ ∀ i ∈ b :: bs, b ≤ i ∧ i ≤ (b :: bs).getLastD b := by
  have hlast : (b :: bs).getLastD b = (b :: bs).getLast (List.cons_ne_nil b bs) := rfl
  rw [hlast]
  refine ⟨List.getLast_mem _, fun i hi => ⟨?_, (h.imp Nat.le_of_lt).rel_getLast hi⟩⟩
  obtain rfl | hi := List.mem_cons.1 hi
  · exact le_rfl
  · exact (List.rel_of_pairwise_cons h hi).le

/-- The edges are the least and the greatest candidate (R77). -/
theorem findEdges_eq_some_iff {threshold : Nat} {bins : List BinResult} {t d : Nat} :
    findEdges threshold bins = some (t, d) ↔
      t ∈ indicesFrom (BinResult.candidate threshold) bins 0 ∧ d ∈ indicesFrom (BinResult.candidate threshold) bins 0 ∧
      ∀ i ∈ indicesFrom (BinResult.candidate threshold) bins 0, t ≤ i ∧ i ≤ d := by
  have hrise := indicesFrom_pairwise_lt (BinResult.candidate threshold) bins 0
  unfold findEdges
  generalize indicesFrom (BinResult.candidate threshold) bins 0 = is at hrise
  cases is with
  | nil => simp
  | cons b bs =>
    obtain ⟨hlast, hbounds⟩ := pairwise_lt_bounds hrise
    simp only [Option.some.injEq, Prod.mk.injEq]
    constructor
    · rintro ⟨rfl, rfl⟩
      exact ⟨List.mem_cons_self, hlast, hbounds⟩
    · rintro ⟨ht, hd, hall⟩
      exact ⟨(hbounds t ht).1.antisymm (hall b List.mem_cons_self).1, (hall _ hlast).2.antisymm (hbounds d hd).2⟩

/-! ## Marking off the sheet (R78) -/

/-- The bin index lies outside the edges found (R78). -/
def OffSheet (edges : Option (Nat × Nat)) (i : Nat) : Prop := ∃ t d, edges = some (t, d) ∧ (i < t ∨ d < i)

/-- A bin's result after the marking (R78). -/
def markedBin (edges : Option (Nat × Nat)) (i : Nat) (r : BinResult) : BinResult :=
  match edges with
  | none => r
  | some (t, d) => if i < t ∨ d < i then r.markOff else r

theorem markOffSheet_eq (edges : Option (Nat × Nat)) (bins : List BinResult) :
    markOffSheet edges bins = bins.mapIdx (markedBin edges) := by
  cases edges with
  | none =>
    refine List.ext_getElem? fun i => ?_
    rw [List.getElem?_mapIdx]
    exact (congrFun Option.map_id bins[i]?).symm
  | some e => rfl

theorem markedBin_off {edges : Option (Nat × Nat)} {i : Nat} (h : OffSheet edges i) (r : BinResult) :
    markedBin edges i r = r.markOff := by
  obtain ⟨t, d, rfl, hout⟩ := h
  exact if_pos hout

theorem markedBin_on {edges : Option (Nat × Nat)} {i : Nat} (h : ¬OffSheet edges i) (r : BinResult) :
    markedBin edges i r = r := by
  cases edges with
  | none => rfl
  | some e => exact if_neg fun hout => h ⟨e.1, e.2, rfl, hout⟩

/-- The marking changes states only (R78). -/
theorem markedBin_measured (edges : Option (Nat × Nat)) (i : Nat) (r : BinResult) :
    { markedBin edges i r with state := r.state } = r := by
  by_cases h : OffSheet edges i
  · rw [markedBin_off h]
    rfl
  · rw [markedBin_on h]

theorem BinState.offEdge_eq (x : BinState) : x.offEdge = if x = .notReached then .notReached else .offSheet := by
  cases x <;> rfl

theorem BinResult.markOff_state (r : BinResult) (q : Profile) :
    r.markOff.state.get q = if r.state.get q = .notReached then .notReached else .offSheet := by
  rw [← BinState.offEdge_eq]
  cases q <;> rfl

/-! ## Qualifying bins (R79) -/

theorem not_offSheet_of_inMargin {edges : Option (Nat × Nat)} {margin i : Nat} (h : inMargin edges margin i = true) :
    ¬OffSheet edges i := by
  rintro ⟨t, d, rfl, hout⟩
  simp only [inMargin, Bool.and_eq_true, decide_eq_true_eq] at h
  omega

/-- The bins marked off the sheet qualify neither before nor after the marking, so the statistics may be read off the measured
bins. -/
theorem qualifyingValue_markedBin (edges : Option (Nat × Nat)) (margin : Nat) (q : Profile) (i : Nat) (r : BinResult) :
    qualifyingValue edges margin q i (markedBin edges i r) = qualifyingValue edges margin q i r := by
  cases h : inMargin edges margin i with
  | true => rw [markedBin_on (not_offSheet_of_inMargin h)]
  | false => simp [qualifyingValue, qualifies, h]

theorem qualifyingValues_markOffSheet (edges : Option (Nat × Nat)) (margin : Nat) (q : Profile) (bins : List BinResult) :
    qualifyingValues edges margin q (markOffSheet edges bins) = qualifyingValues edges margin q bins := by
  unfold qualifyingValues
  rw [markOffSheet_eq, List.mapIdx_mapIdx]
  simp only [Function.comp_def, qualifyingValue_markedBin]

/-- The qualifying values in the order of the bins' indices. -/
theorem qualifyingValues_eq (edges : Option (Nat × Nat)) (margin : Nat) (q : Profile) (bins : List BinResult) (dflt : BinResult) :
    qualifyingValues edges margin q bins =
      (List.range bins.length).filterMap fun i => qualifyingValue edges margin q i (bins.getD i dflt) := by
  have hidx : (bins.mapIdx fun i r => qualifyingValue edges margin q i r) =
      (List.range bins.length).map fun i => qualifyingValue edges margin q i (bins.getD i dflt) :=
    List.ext_getElem (by simp) fun i h _ => by
      have hi : i < bins.length := by simpa using h
      simp [hi]
  rw [qualifyingValues, hidx, List.filterMap_map]
  rfl

/-- No bin qualifies without edges. -/
theorem qualifyingValue_none (margin : Nat) (q : Profile) (i : Nat) (r : BinResult) :
    qualifyingValue none margin q i r = none := rfl

theorem qualifyingValues_none (margin : Nat) (q : Profile) (bins : List BinResult) :
    qualifyingValues none margin q bins = [] := by
  simp [qualifyingValues, qualifyingValue_none]

/-! ## Average and spread (R80, R81) -/

theorem mdAverage_eq (vs : List Nat) :
    mdAverage vs = if vs = [] then none else some ((vs.sum + vs.length / 2) / vs.length) := by
  cases vs <;> rfl

theorem spread_eq_none_iff {vs : List Nat} : spread vs = none ↔ vs = [] := by
  cases vs <;> simp [spread]

/-- The spread is the distance from the least value to the greatest. -/
theorem spread_eq_some {vs : List Nat} {p : Nat} (h : spread vs = some p) :
    (∀ v ∈ vs, ∀ w ∈ vs, v ≤ w + p) ∧ ∃ v ∈ vs, ∃ w ∈ vs, v = w + p := by
  cases vs with
  | nil => cases h
  | cons x xs =>
    cases h
    obtain ⟨hmax, hle⟩ := List.max?_eq_some_iff.1 (List.max?_cons' (x := x) (xs := xs))
    obtain ⟨hmin, hge⟩ := List.min?_eq_some_iff.1 (List.min?_cons' (x := x) (xs := xs))
    refine ⟨fun v hv w hw => ?_, _, hmax, _, hmin, ?_⟩
    · have := hle v hv
      have := hge w hw
      omega
    · have := hle _ hmin
      omega

/-! ## The closed scan -/

/-- What a close makes of a bin's result: the state marked, the deviations filled in (R78, R81). -/
def closedBin (edges : Option (Nat × Nat)) (margin : Nat) (avg : Per4 (Option Nat)) (i : Nat) (r : BinResult) : BinResult :=
  { markedBin edges i r with deviation := Per4.ofFn fun q => deviation (avg.get q) (qualifyingValue edges margin q i r) }

theorem withDeviations_markOffSheet (edges : Option (Nat × Nat)) (margin : Nat) (avg : Per4 (Option Nat))
    (bins : List BinResult) :
    withDeviations edges margin avg (markOffSheet edges bins) = bins.mapIdx (closedBin edges margin avg) := by
  rw [withDeviations, markOffSheet_eq, List.mapIdx_mapIdx]
  simp only [Function.comp_def, qualifyingValue_markedBin]
  rfl

/-- A close changes a bin's states and deviations only (R78, R81). -/
theorem closedBin_measured (edges : Option (Nat × Nat)) (margin : Nat) (avg : Per4 (Option Nat)) (i : Nat) (r : BinResult) :
    { closedBin edges margin avg i r with state := r.state, deviation := r.deviation } = r :=
  congrArg (fun x : BinResult => { x with deviation := r.deviation }) (markedBin_measured edges i r)

/-- The deviation is taken of a qualifying bin's value and is absent elsewhere (R81). -/
theorem closedBin_deviation (edges : Option (Nat × Nat)) (margin : Nat) (avg : Per4 (Option Nat)) (i : Nat) (r : BinResult)
    (q : Profile) : (closedBin edges margin avg i r).deviation.get q =
      if qualifies edges margin q i r then deviation (avg.get q) (r.value.get q) else none := by
  rw [closedBin, Per4.get_ofFn, qualifyingValue]
  split
  · rfl
  · cases avg.get q <;> rfl

section
variable (how : Completion) (sc : ScanRecord) (done : Nat) (tick : Word)

theorem closedScan_edges_complete :
    (closedScan .complete sc done tick).edges = findEdges sc.settings.edgeThreshold sc.results := rfl

theorem closedScan_edges_aborted (why : AbortReason) : (closedScan (.aborted why) sc done tick).edges = none := rfl

theorem closedScan_mdAverage (q : Profile) : (closedScan how sc done tick).mdAverage.get q =
    mdAverage (qualifyingValues (closedScan how sc done tick).edges sc.settings.edgeMargin q sc.results) := by
  rw [← qualifyingValues_markOffSheet]
  exact Per4.get_ofFn _ q

theorem closedScan_spread (q : Profile) : (closedScan how sc done tick).spread.get q =
    spread (qualifyingValues (closedScan how sc done tick).edges sc.settings.edgeMargin q sc.results) := by
  rw [← qualifyingValues_markOffSheet]
  exact Per4.get_ofFn _ q

theorem closedScan_bins :
    let c := closedScan how sc done tick
    c.bins = sc.results.mapIdx (closedBin c.edges sc.settings.edgeMargin c.mdAverage) :=
  withDeviations_markOffSheet ..

theorem closedScan_length : (closedScan how sc done tick).bins.length = sc.results.length := by
  rw [closedScan_bins, List.length_mapIdx]

variable {how sc done tick}

theorem closedScan_bin {i : Nat} {r : BinResult} (h : (closedScan how sc done tick).bins[i]? = some r) :
    let c := closedScan how sc done tick
    r = closedBin c.edges sc.settings.edgeMargin c.mdAverage i (sc.results.getD i BinResult.notReached) := by
  rw [closedScan_bins, List.getElem?_mapIdx, Option.map_eq_some_iff] at h
  obtain ⟨b, hb, rfl⟩ := h
  rw [List.getD_eq_getElem?_getD, hb, Option.getD_some]

end

/-- Settles O34: the edges are the least and the greatest index of `indicesFrom`, each bin of the close is a `closedBin` of the
scan's own, and the statistics are read off the measured bins; an ABORTED close is the same table without edges. -/
theorem closesFindEdgesAndStatistics : Obligations.ClosesFindEdgesAndStatistics := by
  unfold Obligations.ClosesFindEdgesAndStatistics
  intro sc done tick why c a len margin bin candidate off good
  have hcand (i : Nat) : i ∈ indicesFrom (BinResult.candidate sc.settings.edgeThreshold) sc.results 0 ↔ candidate i :=
    (mem_indicesFrom_zero BinResult.notReached).trans (and_congr_right' BinResult.candidate_iff)
  have hgood (i : Nat) (q : Profile) : good i q = qualifies c.edges margin q i (bin i) := by
    cases h : c.edges <;> simp only [good, h] <;> rfl
  refine ⟨fun t d => ?edges, closedScan_length .., fun i r h => ?bins, fun q => ?statistics, rfl, fun q => ?absent,
    closedScan_length .., fun i r h => ?aborted⟩
  case edges =>
    rw [closedScan_edges_complete, findEdges_eq_some_iff]
    simp only [hcand]
  case bins =>
    rw [closedScan_bin h]
    refine ⟨closedBin_measured .., fun q => ⟨fun hoff => ?_, fun hon => ?_, ?_⟩⟩
    · exact (congrArg (·.state.get q) (markedBin_off hoff (bin i))).trans (BinResult.markOff_state _ q)
    · exact congrArg (·.state.get q) (markedBin_on hon (bin i))
    · rw [hgood, closedBin_deviation]
      refine if_congr Iff.rfl ?_ rfl
      cases c.mdAverage.get q <;> cases (bin i).value.get q <;> rfl
  case statistics =>
    have hvs : (List.range len).filterMap (fun i => if good i q then (bin i).value.get q else none) =
        qualifyingValues c.edges margin q sc.results := by
      simp only [hgood]
      exact (qualifyingValues_eq _ _ q _ _).symm
    rw [hvs, closedScan_mdAverage, closedScan_spread]
    exact ⟨mdAverage_eq _, spread_eq_none_iff, fun p => spread_eq_some⟩
  case absent =>
    rw [closedScan_mdAverage, closedScan_spread, closedScan_edges_aborted, qualifyingValues_none]
    exact ⟨rfl, rfl⟩
  case aborted =>
    rw [closedScan_bin h, closedScan_edges_aborted]
    exact ⟨rfl, fun q => closedBin_deviation none ..⟩

end Sys2Proof.Machine
end

section
/-! PROOFS. Chapter 05, the filter step: its rounding, its length and its sign (O36). -/

namespace Sys2Proof.Machine
open Sys2Proof

/-! ## The filter step -/

theorem filterStep_natAbs (e : Int) (k : Nat) : (filterStep e k).natAbs = divHalfUp (e.natAbs * k) 16 := by
  rw [filterStep, roundAway_natAbs, Int.natAbs_mul, Int.natAbs_natCast]

/-- A step points the way the difference points. -/
theorem filterStep_sign (e : Int) (k : Nat) : (0 ≤ e → 0 ≤ filterStep e k) ∧ (e ≤ 0 → filterStep e k ≤ 0) := by
  rw [filterStep, roundAway_eq]
  refine ⟨fun he => ?_, fun he => ?_⟩
  · rw [if_neg (not_lt.2 (mul_nonneg he (Int.natCast_nonneg k)))]
    exact Int.natCast_nonneg _
  · split
    · omega
    · next hp =>
      have hzero : e * k = 0 := le_antisymm (mul_nonpos_of_nonpos_of_nonneg he (Int.natCast_nonneg k)) (not_lt.1 hp)
      rw [hzero]
      rfl

/-- With a gain of at most 16 a step is no longer than the difference. -/
theorem filterStep_natAbs_le (e : Int) {k : Nat} (hk : k ≤ 16) : (filterStep e k).natAbs ≤ e.natAbs := by
  have hprod : e.natAbs * k ≤ e.natAbs * 16 := Nat.mul_le_mul_left _ hk
  rw [filterStep_natAbs, divHalfUp]
  omega

/-- A gain of 16 makes the step the whole difference. -/
theorem filterStep_sixteen (e : Int) : filterStep e 16 = e := by
  have habs : (filterStep e 16).natAbs = e.natAbs := by
    rw [filterStep_natAbs, divHalfUp]
    omega
  have hsign := filterStep_sign e 16
  omega

/-- A difference whose product with the gain is less than half of 16 gives no step. -/
theorem filterStep_of_small {e : Int} {k : Nat} (h : e.natAbs * k < 8) : filterStep e k = 0 := by
  rw [← Int.natAbs_eq_zero, filterStep_natAbs, divHalfUp]
  omega

/-- The step is the difference times the gain over 16, to nearest with ties away from zero (R94, R95). -/
theorem filterStep_nearest (e : Int) (k : Nat) :
    2 * (e * k - 16 * filterStep e k).natAbs ≤ 16 ∧
    (2 * (e * k - 16 * filterStep e k).natAbs = 16 → (e * k).natAbs ≤ (16 * filterStep e k).natAbs) :=
  roundAway_nearest (e * k) (by decide : 0 < 16)

/-- A step from `x` toward `y` does not pass `y` (R97). -/
theorem filterStep_toward (x y : Int) {k : Nat} (hk : k ≤ 16) :
    min x y ≤ x + filterStep (y - x) k ∧ x + filterStep (y - x) k ≤ max x y := by
  have hsign := filterStep_sign (y - x) k
  have hlen := filterStep_natAbs_le (y - x) hk
  omega

/-- Settles O36: F and MDF move by the same step, `filterStep` of the difference, whose sign, length and rounding the lemmas above
give; a bin that does not qualify ages by definition. -/
theorem filterStepsNeverOvershoot : Obligations.FilterStepsNeverOvershoot := by
  unfold Obligations.FilterStepsNeverOvershoot
  intro e d k a mdf _ hk
  obtain ⟨hlow, hhigh⟩ := filterStep_toward e.f d hk
  obtain ⟨hmlow, hmhigh⟩ := filterStep_toward mdf a hk
  refine ⟨⟨filterStep (d - e.f) k, rfl, filterStep_nearest _ k⟩, ⟨filterStep (a - mdf) k, rfl, filterStep_nearest _ k⟩,
    hlow, hhigh, ?closesF, fun hsmall => ?still, rfl, rfl, hmlow, hmhigh, ?closesMdf, rfl, rfl⟩
  case closesF =>
    show e.f + filterStep (d - e.f) 16 = d
    rw [filterStep_sixteen, add_sub_cancel]
  case still =>
    show e.f + filterStep (d - e.f) k = e.f
    rw [filterStep_of_small hsmall, add_zero]
  case closesMdf =>
    show mdf + filterStep (a - mdf) 16 = a
    rw [filterStep_sixteen, add_sub_cancel]

end Sys2Proof.Machine
end

section
/-! PROOFS. Chapter 05, the law of R98: what it reads of a state, the operations that change nothing of that, and the close
of a scan, the one event that writes the filters. -/

namespace Sys2Proof.Machine

open Sys2Proof

/-! ## The view -/

/-- The filtered profiles with the two records that a close with edges found writes beside them (R85, R90, R172). -/
structure FilterRecord where
  table : Per4 (List FilterEntry)
  mdf : Per4 Int
  edges : Option EdgesRecord
  sourceScan : Word

/-- The edges record that a COMPLETE close of the open scan would write now (R77, R85). -/
def wouldFind (s : State) : Option EdgesRecord :=
  s.prof.openScan.bind fun sc => (closedScan .complete (shutScan s sc) 0 0).edges.map fun e => ⟨e.1, e.2, sc.number⟩

/-- What the law of R98 reads of a state: the filter record, what a close would find, the bin geometry in force, and the card that the
order unit is reading, whose order a grant within the same command may carry out. -/
structure FilterView where
  filters : FilterRecord
  finds : Option EdgesRecord
  geometry : Option BinMap
  reading : Option CardRead

def State.filterView (s : State) : FilterView where
  filters := ⟨s.prof.table, s.prof.mdf, s.prof.edges, s.prof.sourceScan⟩
  finds := wouldFind s
  geometry := s.car.frame.map binMap
  reading := s.ord.service.bind Service.card

/-! ## Operations that keep the view -/

section
variable (s : State)

@[simp] theorem State.onCar_filterView {f : CarriageController → CarriageController} (h : ∀ k, (f k).frame = k.frame) :
    (s.onCar f).filterView = s.filterView := by
  simp only [State.filterView, State.onCar_car, h]
  rfl

@[simp] theorem State.onEng_filterView {f : Engine → Engine} (h : ∀ e, (f e).openBin = e.openBin ∧ (f e).accs = e.accs) :
    (s.onEng f).filterView = s.filterView := by
  simp only [State.filterView, wouldFind, shutScan, State.onEng_eng, h]
  rfl

@[simp] theorem State.onProf_filterView {f : ProfileEngine → ProfileEngine} (h : ∀ p, (f p).table = p.table ∧ (f p).mdf = p.mdf ∧
    (f p).edges = p.edges ∧ (f p).sourceScan = p.sourceScan ∧ (f p).openScan = p.openScan) :
    (s.onProf f).filterView = s.filterView := by
  simp only [State.filterView, wouldFind, State.onProf_prof, h]
  rfl

@[simp] theorem State.onTime_filterView (f : TimeBase → TimeBase) : (s.onTime f).filterView = s.filterView := rfl
@[simp] theorem State.onLinks_filterView (f : PerBeam Receiver → PerBeam Receiver) : (s.onLinks f).filterView = s.filterView := rfl
@[simp] theorem State.onStd_filterView (f : StdUnit → StdUnit) : (s.onStd f).filterView = s.filterView := rfl
@[simp] theorem State.onSheet_filterView (f : SheetMonitor → SheetMonitor) : (s.onSheet f).filterView = s.filterView := rfl
@[simp] theorem State.onAlarm_filterView (f : AlarmUnit → AlarmUnit) : (s.onAlarm f).filterView = s.filterView := rfl
@[simp] theorem State.onExp_filterView (f : ExportLink → ExportLink) : (s.onExp f).filterView = s.filterView := rfl
@[simp] theorem State.onPortA_filterView (f : PortA → PortA) : (s.onPortA f).filterView = s.filterView := rfl
@[simp] theorem State.onPortB_filterView (f : PortB → PortB) : (s.onPortB f).filterView = s.filterView := rfl
@[simp] theorem State.onGuard_filterView (f : AccessGuard → AccessGuard) : (s.onGuard f).filterView = s.filterView := rfl
@[simp] theorem State.onInputs_filterView (f : PerBeam DriveInputs → PerBeam DriveInputs) :
    (s.onInputs f).filterView = s.filterView := rfl
@[simp] theorem State.withRefresh_filterView (r : Option Refresh) : (s.withRefresh r).filterView = s.filterView := rfl
@[simp] theorem State.storeWord_filterView (w : WordIdx) (v : Word) : (s.storeWord w v).filterView = s.filterView := rfl
@[simp] theorem State.raise_filterView (n : Notice) : (s.raise n).filterView = s.filterView := rfl
@[simp] theorem driveLines_filterView : (driveLines s).filterView = s.filterView := rfl

@[simp] theorem State.raiseIf_filterView (c : Bool) (n : Notice) : (s.raiseIf c n).filterView = s.filterView := by
  cases c <;> rfl

@[simp] theorem giveCondition_filterView (k : AlarmKind) (present : Bool) : (giveCondition k present s).filterView = s.filterView := by
  simp [giveCondition, moveEntry]

@[simp] theorem answer_filterView (slot : Slot) (c : ResultCode) (v : Word) : (answer slot c v s).filterView = s.filterView := rfl

@[simp] theorem answerEnded_filterView (slot : Slot) (c : ResultCode) (v : Word) :
    (answerEnded slot c v s).filterView = s.filterView := rfl

@[simp] theorem answerLong_filterView (c : ResultCode) (v : Word) : (answerLong c v s).filterView = s.filterView := by
  simp only [answerLong]; split <;> simp

@[simp] theorem holdLong_filterView (kind : LongKind) (slot : Slot) : (holdLong kind slot s).filterView = s.filterView := by
  simp [holdLong]

@[simp] theorem replaceLong_filterView (c : ResultCode) (kind : LongKind) (slot : Slot) :
    (replaceLong c kind slot s).filterView = s.filterView := by
  simp only [replaceLong]; split <;> simp

@[simp] theorem passSlot_filterView (slot : Slot) : (passSlot slot s).filterView = s.filterView :=
  s.onCar_filterView fun k => by split <;> rfl

@[simp] theorem answerStd_filterView (c : ResultCode) (v : Word) : (answerStd c v s).filterView = s.filterView := by
  simp only [answerStd]; split <;> simp

@[simp] theorem abandonWaiting_filterView : (abandonWaiting s).filterView = s.filterView := by
  simp only [abandonWaiting]; split <;> simp

@[simp] theorem abandonDwell_filterView : (abandonDwell s).filterView = s.filterView := by
  simp only [abandonDwell]; split <;> simp

@[simp] theorem beginDwell_filterView : (beginDwell s).filterView = s.filterView := rfl

@[simp] theorem countTraverse_filterView : (countTraverse s).filterView = s.filterView := rfl

@[simp] theorem setPlan_filterView (n : Nat) : (setPlan n s).filterView = s.filterView := by
  simp [setPlan]

@[simp] theorem enterParked_filterView (side : Side) : (enterParked side s).filterView = s.filterView := by
  simp only [enterParked]; split <;> simp

@[simp] theorem enterHalted_filterView : (enterHalted s).filterView = s.filterView := by
  simp [enterHalted]

@[simp] theorem clearPlan_filterView : (clearPlan s).filterView = s.filterView := by
  simp [clearPlan]

@[simp] theorem takeNextPlan_filterView : (s.onCar takeNextPlan).filterView = s.filterView :=
  s.onCar_filterView fun k => by unfold takeNextPlan; split <;> rfl

@[simp] theorem zeroIfHome_filterView (b : Beam) : (zeroIfHome b s).filterView = s.filterView := by
  simp only [zeroIfHome, zeroAxis]; split <;> simp

@[simp] theorem breakEffects_filterView (src : BreakSource) : (breakEffects src s).filterView = s.filterView := by
  simp [breakEffects]

@[simp] theorem takeBreakQuiet_filterView (src : BreakSource) : (takeBreakQuiet src s).filterView = s.filterView := by
  simp only [takeBreakQuiet]; split <;> simp

@[simp] theorem takeDueBreaks_filterView : (takeDueBreaks s).filterView = s.filterView := by
  simp only [takeDueBreaks, takeExternalQuiet, takeSampleQuiet]; (repeat' split) <;> simp

@[simp] theorem sheetOnEffects_filterView : (sheetOnEffects s).filterView = s.filterView := by
  simp [sheetOnEffects]

@[simp] theorem arrive_filterView (b : Beam) : (arrive b s).filterView = s.filterView := by
  simp only [arrive]; (repeat' split) <;> simp

@[simp] theorem evaluateSheet_filterView (a z : Nat) : (evaluateSheet a z s).filterView = s.filterView := by
  simp only [evaluateSheet, confirmSheet, giveCondition_filterView, State.onSheet_filterView]; split <;> simp

@[simp] theorem startPublication_filterView (c : ClosedScan) : (startPublication c s).filterView = s.filterView := by
  simp only [startPublication, unpublished]; split <;> simp

@[simp] theorem closeRest_filterView (how : Completion) (sc : ScanRecord) : (closeRest how sc s).filterView = s.filterView := by
  simp only [closeRest]; split <;> simp

@[simp] theorem writeZeros_filterView (d : Dwell) (o : Per3 StdOutcome) : (writeZeros d o s).filterView = s.filterView := by
  simp [writeZeros]

end

/-! ## The steps of the law -/

/-- The filter record is the one that a close with these edges leaves (R85, R172). -/
def FilterRecord.WrittenBy (e : EdgesRecord) (r : FilterRecord) : Prop := r.edges = some e ∧ r.sourceScan = e.scan

/-- What every event of the frame, the sheet and the clock leaves, and any number of them one after the other: the filter record as it
was, the open scan as it was or closed or replaced by one without edges; or the record of the one close that found edges, after which no
scan stays open that would find any. -/
structure FilterView.LeadsTo (v w : FilterView) : Prop where
  geometry : w.geometry = v.geometry
  reading : w.reading = v.reading
  filters : w.filters = v.filters ∧ (w.finds = v.finds ∨ w.finds = none) ∨
    ∃ e, v.finds = some e ∧ w.filters.WrittenBy e ∧ w.finds = none

namespace FilterView.LeadsTo

theorem of_eq {v w : FilterView} (h : w = v) : v.LeadsTo w := by
  subst h
  exact ⟨rfl, rfl, .inl ⟨rfl, .inl rfl⟩⟩

theorem refl (v : FilterView) : v.LeadsTo v := of_eq rfl

/-- No close after the first finds edges, so the steps compose. -/
theorem trans {u v w : FilterView} (huv : u.LeadsTo v) (hvw : v.LeadsTo w) : u.LeadsTo w := by
  refine ⟨hvw.geometry.trans huv.geometry, hvw.reading.trans huv.reading, ?_⟩
  obtain ⟨hkept, hfinds⟩ | ⟨e, he, hwritten, hgone⟩ := huv.filters
  · obtain ⟨hkept', hfinds'⟩ | ⟨e, he, hwritten, hgone⟩ := hvw.filters
    · exact .inl ⟨hkept'.trans hkept, hfinds'.elim (fun h => h ▸ hfinds) .inr⟩
    · exact .inr ⟨e, hfinds.elim (fun h => h ▸ he) (fun h => by rw [h] at he; cases he), hwritten, hgone⟩
  · obtain ⟨hkept', hfinds'⟩ | ⟨e', he', _⟩ := hvw.filters
    · exact .inr ⟨e, he, hkept' ▸ hwritten, hfinds'.elim (fun h => h.trans hgone) id⟩
    · rw [hgone] at he'
      cases he'

end FilterView.LeadsTo

/-! ## Closing a scan -/

theorem wouldFind_eq_some_iff {s : State} {e : EdgesRecord} : wouldFind s = some e ↔ ∃ sc a z,
    s.prof.openScan = some sc ∧ (closedScan .complete (shutScan s sc) 0 0).edges = some (a, z) ∧ e = ⟨a, z, sc.number⟩ := by
  simp [wouldFind, Option.bind_eq_some_iff, Option.map_eq_some_iff, eq_comm (b := e)]

theorem shutScan_number (s : State) (sc : ScanRecord) : (shutScan s sc).number = sc.number := by
  unfold shutScan
  split <;> rfl

/-- Closing the open bin makes of the open scan the record that a close reads (R70, R76). -/
theorem closeOpenBin_openScan (s : State) : (closeOpenBin s).prof.openScan = s.prof.openScan.map (shutScan s) := by
  cases hb : s.eng.openBin <;> cases hsc : s.prof.openScan <;>
    simp [closeOpenBin, hb, hsc, onOpenScan, shutScan]

/-- Closing the open bin changes the scan record alone, which no field of the view but `finds` shows. -/
theorem closeOpenBin_filterView (s : State) :
    { (closeOpenBin s).filterView with finds := none } = { s.filterView with finds := none } := by
  simp only [closeOpenBin]
  split <;> rfl

/-- A close without edges, or an ABORTED one, hands off no filter (R91, R93). -/
theorem handOff_filterView_of_none {c : ClosedScan} (h : c.completion = .complete → c.edges = none) (s : State) :
    (handOff c s).filterView = s.filterView := by
  unfold handOff
  split
  · next hc he => rw [h hc] at he; cases he
  all_goals simp [apply_ite State.filterView]

/-- The filter update changes the tables and names the source scan (R92, R172). -/
theorem filterUpdate_filterView (c : ClosedScan) (s : State) : (filterUpdate c s).filterView = { s.filterView with
    filters := ⟨(filterUpdate c s).prof.table, (filterUpdate c s).prof.mdf, s.prof.edges, c.number⟩ } := rfl

/-- The edges record is replaced (R85). -/
theorem edgesRecord_filterView (e : EdgesRecord) (s : State) : (s.onProf fun p => { p with edges := some e }).filterView =
    { s.filterView with filters := { s.filterView.filters with edges := some e } } := rfl

/-- A COMPLETE close with edges found writes the filter record (R85, R92, R172). -/
theorem handOff_filterView_of_some {c : ClosedScan} {a z : Nat} (hc : c.completion = .complete) (he : c.edges = some (a, z))
    (s : State) : ∃ r : FilterRecord, r.WrittenBy ⟨a, z, c.number⟩ ∧
      (handOff c s).filterView = { s.filterView with filters := r } := by
  let updated := filterUpdate c (giveCondition .sampleLoss c.sampleLoss s)
  refine ⟨⟨updated.prof.table, updated.prof.mdf, some ⟨a, z, c.number⟩, c.number⟩, ⟨rfl, rfl⟩, ?_⟩
  simp only [handOff, hc, he, apply_ite State.filterView, startPublication_filterView, edgesRecord_filterView,
    evaluateSheet_filterView, filterUpdate_filterView, giveCondition_filterView, ite_self, updated]

/-- Up to its hand-offs a close changes the open scan alone. -/
theorem scanShut_filterView (how : Completion) (sc : ScanRecord) (c : ClosedScan) (s : State) :
    ((closeRest how sc (closeOpenBin s)).onProf fun p => { p with openScan := none, closed := some c }).filterView =
      { s.filterView with finds := none } := by
  have hrest := closeRest_filterView (closeOpenBin s) how sc
  calc
    _ = { (closeRest how sc (closeOpenBin s)).filterView with finds := none } := rfl
    _ = _ := by rw [hrest, closeOpenBin_filterView]

theorem closeScan_leadsTo (how : Completion) (s : State) : s.filterView.LeadsTo (closeScan how s).filterView := by
  unfold closeScan
  split
  · exact .refl _
  next sc' hsc' =>
  obtain ⟨sc, hsc, rfl⟩ : ∃ sc, s.prof.openScan = some sc ∧ shutScan s sc = sc' := by
    simpa [closeOpenBin_openScan] using hsc'
  extract_lets s' c z
  have hz : z.filterView = { s.filterView with finds := none } := scanShut_filterView how _ c s
  by_cases hfound : c.completion = .complete ∧ ∃ e, c.edges = some e
  · obtain ⟨hc, ⟨a, d⟩, he⟩ := hfound
    obtain ⟨r, hr, hview⟩ := handOff_filterView_of_some hc he z
    rw [hview, hz]
    obtain rfl : how = .complete := hc
    have hfinds : wouldFind s = some ⟨a, d, c.number⟩ :=
      wouldFind_eq_some_iff.2 ⟨sc, a, d, hsc, he, congrArg (EdgesRecord.mk a d) (shutScan_number s sc)⟩
    exact ⟨rfl, rfl, .inr ⟨_, hfinds, hr, rfl⟩⟩
  · rw [handOff_filterView_of_none fun hc => Option.eq_none_iff_forall_ne_some.2 fun e he => hfound ⟨hc, e, he⟩, hz]
    exact ⟨rfl, rfl, .inl ⟨rfl, .inr rfl⟩⟩

end Sys2Proof.Machine
end

section
/-! PROOFS. Chapter 05, the law of R98 in the carriages, the clock and the orders: every event composes from kept views and closes; a
SET_FRAME may change the geometry as well. -/

namespace Sys2Proof.Machine

open Sys2Proof

/-! ## Motion -/

theorem enterFaulted_leadsTo (cause : FaultCause) (s : State) : s.filterView.LeadsTo (enterFaulted cause s).filterView := by
  unfold enterFaulted
  split
  · exact .refl _
  · simp only [giveCondition_filterView, abandonWaiting_filterView, answerLong_filterView, State.raise_filterView,
      State.onCar_filterView, implies_true, apply_ite State.filterView, abandonDwell_filterView, ite_self]
    split
    · exact closeScan_leadsTo _ s
    · exact .refl _

theorem startMoveIn_leadsTo (p : Purpose) (target : Nat) (dir : Direction) (s : State) :
    s.filterView.LeadsTo (startMoveIn p target dir s).filterView := by
  unfold startMoveIn
  split
  · exact .trans (.of_eq (by simp)) (enterFaulted_leadsTo _ _)
  · exact .of_eq (by simp)

theorem startMove_leadsTo (p : Purpose) (target : Nat) (s : State) : s.filterView.LeadsTo (startMove p target s).filterView :=
  startMoveIn_leadsTo ..

theorem startSeek_leadsTo (s : State) : s.filterView.LeadsTo (startSeek s).filterView := by
  unfold startSeek
  split
  · exact .trans (.of_eq (by simp)) (enterFaulted_leadsTo _ _)
  · exact .of_eq (by simp)

theorem startPark_leadsTo (s : State) : s.filterView.LeadsTo (startPark s).filterView :=
  .trans (.of_eq (by simp)) (startMove_leadsTo _ _ _)

/-- No bin of a scan just opened is a candidate (R73, R77). -/
theorem findEdges_replicate_notReached (threshold n : Nat) : findEdges threshold (List.replicate n BinResult.notReached) = none := by
  have hnone (i : Nat) : indicesFrom (BinResult.candidate threshold) (List.replicate n BinResult.notReached) i = [] := by
    induction n generalizing i with
    | zero => rfl
    | succ n ih => simpa [List.replicate_succ, indicesFrom, BinResult.candidate, BinResult.notReached] using ih (i + 1)
  simp only [findEdges, hnone]

theorem openScan_leadsTo (f : FrameRecord) (dir : Direction) (s : State) : s.filterView.LeadsTo (openScan f dir s).filterView :=
  ⟨rfl, rfl, .inl ⟨rfl, .inr (congrArg (Option.map _) (findEdges_replicate_notReached ..))⟩⟩

theorem applyPendingCal_bins (c : Channel) (e : Engine) :
    (applyPendingCal c e).openBin = e.openBin ∧ (applyPendingCal c e).accs = e.accs := by
  unfold applyPendingCal
  split <;> exact ⟨rfl, rfl⟩

theorem applyPendingProfile_filters (p : ProfileEngine) : (applyPendingProfile p).table = p.table ∧
    (applyPendingProfile p).mdf = p.mdf ∧ (applyPendingProfile p).edges = p.edges ∧
    (applyPendingProfile p).sourceScan = p.sourceScan ∧ (applyPendingProfile p).openScan = p.openScan := by
  unfold applyPendingProfile
  split <;> exact ⟨rfl, rfl, rfl, rfl, rfl⟩

theorem traverseStart_leadsTo (side : Side) (s : State) : s.filterView.LeadsTo (traverseStart side s).filterView := by
  unfold traverseStart
  extract_lets purpose
  split
  · exact .trans (.of_eq (by simp)) (enterFaulted_leadsTo _ _)
  · next m s₁ s₂ s₃ s₄ s₅ _ _ =>
    have h : s₅.filterView = s.filterView := by
      simp [s₅, s₄, s₃, s₂, s₁, applyPendingCal_bins, applyPendingProfile_filters]
    split
    · exact .of_eq h
    · exact .trans (.of_eq h) (openScan_leadsTo ..)

theorem parkDecision_leadsTo (side : Side) (s : State) : s.filterView.LeadsTo (parkDecision side s).filterView := by
  unfold parkDecision
  extract_lets s'
  have h : s.filterView.LeadsTo s'.filterView := .of_eq (takeNextPlan_filterView s)
  (repeat' split)
  · exact h.trans (.of_eq (by simp))
  · exact h
  · exact h.trans (.trans (.of_eq (by simp)) (startMove_leadsTo ..))
  · exact h.trans (.of_eq (by simp))
  · exact h.trans (traverseStart_leadsTo ..)
  · exact h.trans (.of_eq (by simp))

theorem turnaround_leadsTo (side : Side) (s : State) : s.filterView.LeadsTo (turnaround side s).filterView := by
  unfold turnaround
  extract_lets s'
  have h : s.filterView.LeadsTo s'.filterView := (closeScan_leadsTo .complete s).trans (.of_eq (takeDueBreaks_filterView _))
  split
  · exact h.trans (.of_eq (by simp))
  · exact h.trans (parkDecision_leadsTo ..)

theorem afterMove_leadsTo (p : Purpose) (target : Nat) (s : State) : s.filterView.LeadsTo (afterMove p target s).filterView := by
  cases p with
  | seek => exact .trans (.of_eq (by simp)) (startMove_leadsTo ..)
  | parkHome => exact .of_eq (by simp [afterMove])
  | traverse side => exact turnaround_leadsTo side s
  | point => exact .of_eq (by simp [afterMove])
  | park side => exact .of_eq (by simp [afterMove])
  | breakReturn side => exact parkDecision_leadsTo side s
  | probe => exact .of_eq (by simp [afterMove])
  | returning side => exact parkDecision_leadsTo side s

theorem settleMoves_leadsTo (n : Nat) (s : State) : s.filterView.LeadsTo (settleMoves n s).filterView := by
  induction n generalizing s with
  | zero => exact .refl _
  | succ n ih =>
    unfold settleMoves
    (repeat' split)
    · exact .refl _
    · exact .trans (.trans (.of_eq (by simp)) (afterMove_leadsTo ..)) (ih _)
    · exact .refl _

theorem settle_leadsTo (s : State) : s.filterView.LeadsTo (settle s).filterView := settleMoves_leadsTo _ s

theorem breakRequest_leadsTo (s : State) : s.filterView.LeadsTo (breakRequest s).filterView := by
  unfold breakRequest
  extract_lets s₁ s₂ side
  have h₁ : s.filterView.LeadsTo s₁.filterView := .of_eq (by simp [s₁, apply_ite State.filterView])
  have h₂ : s₁.filterView.LeadsTo s₂.filterView := by
    unfold s₂
    split
    · exact closeScan_leadsTo ..
    · exact .refl _
  exact (h₁.trans h₂).trans (.trans (.trans (.of_eq (by simp)) (startMove_leadsTo ..)) (settle_leadsTo _))

theorem takeBreak_leadsTo (src : BreakSource) (s : State) : s.filterView.LeadsTo (takeBreak src s).filterView := by
  unfold takeBreak
  extract_lets s'
  have h : s.filterView.LeadsTo s'.filterView := .of_eq (breakEffects_filterView s src)
  (repeat' split)
  · exact .refl _
  · exact h.trans (breakRequest_leadsTo _)
  · exact h

theorem declareSheetOn_leadsTo (s : State) : s.filterView.LeadsTo (declareSheetOn s).filterView := by
  unfold declareSheetOn
  refine .trans (.of_eq (sheetOnEffects_filterView s)) ?_
  unfold reportSheetOn
  split
  · exact .trans (.trans (.of_eq (by simp)) (startMove_leadsTo ..)) (settle_leadsTo _)
  · exact (parkDecision_leadsTo ..).trans (settle_leadsTo _)
  · exact .refl _

/-! ## Position events -/

theorem skewHold_leadsTo (s : State) : s.filterView.LeadsTo (skewHold s).filterView := by
  simp only [skewHold, releaseHolds]
  (repeat' split)
  · exact .refl _
  · exact .of_eq (by simp)
  · exact enterFaulted_leadsTo ..
  · exact .of_eq (by simp)
  · exact .refl _
  · exact .refl _

theorem positionEvent_leadsTo (b : Beam) (s : State) : s.filterView.LeadsTo (positionEvent b s).filterView := by
  unfold positionEvent
  extract_lets s'
  have h : s.filterView.LeadsTo s'.filterView := .of_eq (arrive_filterView s b)
  (repeat' split)
  · exact enterFaulted_leadsTo ..
  · exact (h.trans (settle_leadsTo _)).trans (skewHold_leadsTo _)
  · exact h.trans (skewHold_leadsTo _)
  · exact .refl _

theorem encoderEdge_leadsTo (b : Beam) (d : Direction) (s : State) : s.filterView.LeadsTo (encoderEdge b d s).filterView := by
  unfold encoderEdge
  extract_lets a moved s'
  have h : s.filterView.LeadsTo s'.filterView := .of_eq (by simp [s'])
  split
  · exact h.trans (positionEvent_leadsTo ..)
  · exact h

theorem zeroSeeking_leadsTo (b : Beam) (s : State) : s.filterView.LeadsTo (zeroSeeking b s).filterView :=
  .trans (.of_eq (by simp [zeroAxis])) (settle_leadsTo _)

/-! ## The clock -/

theorem endDwell_leadsTo (s : State) : s.filterView.LeadsTo (endDwell s).filterView := by
  simp only [endDwell]
  (repeat' split)
  · exact .refl _
  · exact .trans (.of_eq (by simp)) ((parkDecision_leadsTo ..).trans (settle_leadsTo _))
  · exact .refl _

theorem endTimedOut_leadsTo (s : State) : s.filterView.LeadsTo (endTimedOut s).filterView := by
  unfold endTimedOut
  split
  · exact enterFaulted_leadsTo ..
  · exact .refl _

theorem takeExternalBreak_leadsTo (s : State) : s.filterView.LeadsTo (takeExternalBreak s).filterView := by
  unfold takeExternalBreak
  split
  · exact .trans (.of_eq (by simp)) (takeBreak_leadsTo ..)
  · exact .refl _

theorem takeProbeSheetOn_leadsTo (s : State) : s.filterView.LeadsTo (takeProbeSheetOn s).filterView := by
  unfold takeProbeSheetOn
  split
  · exact .trans (.of_eq (by simp)) (declareSheetOn_leadsTo _)
  · exact .refl _

theorem takeSampleBreak_leadsTo (s : State) : s.filterView.LeadsTo (takeSampleBreak s).filterView := by
  simp only [takeSampleBreak]
  split
  · exact .of_eq (by simp)
  · exact .trans (.of_eq (by simp)) (takeBreak_leadsTo ..)

theorem takeTickEvents_leadsTo (es : List TickEvent) (s : State) : s.filterView.LeadsTo (es.foldl takeTickEvent s).filterView := by
  induction es generalizing s with
  | nil => exact .refl _
  | cons e es ih =>
    refine .trans ?_ (ih _)
    cases e with
    | moveTimeout => exact endTimedOut_leadsTo s
    | dwellEnd => exact endDwell_leadsTo s
    | externalBreak => exact takeExternalBreak_leadsTo s
    | probeSheetOn => exact takeProbeSheetOn_leadsTo s

section
variable (s : State)

@[simp] theorem countTick_filterView : (countTick s).filterView = s.filterView := by
  simp [countTick]

@[simp] theorem endHoldoffs_filterView : (endHoldoffs s).filterView = s.filterView := by
  simp [endHoldoffs]

@[simp] theorem holdoffTick_filterView : (holdoffTick s).filterView = s.filterView := rfl

@[simp] theorem sheetTick_filterView (brkIn sampleFirst : Bool) : (sheetTick brkIn sampleFirst s).filterView = s.filterView := by
  simp only [sheetTick, readPoint, countSheetOn, sampleBreakLine]; split <;> simp

@[simp] theorem cycleStart_filterView : (cycleStart s).filterView = s.filterView := by
  simp only [cycleStart]; split <;> simp

@[simp] theorem tickExport_filterView : (tickExport s).filterView = s.filterView := by
  simp only [tickExport]; split <;> simp

@[simp] theorem takeRefresh_filterView : (takeRefresh s).filterView = s.filterView := rfl

@[simp] theorem trimService_filterView : (trimService s).filterView = s.filterView := by
  unfold trimService
  split
  · next h _ =>
    simp only [State.filterView, h]
    split <;> rfl
  · rfl

/-- A service that starts reads no card yet, so nothing changes where none was running (R208). -/
theorem startService_filterView (h : s.ord.service = none) : (startService s).filterView = s.filterView := by
  refine (trimService_filterView _).trans ?_
  simp only [State.filterView, h]
  rfl

@[simp] theorem requestService_filterView : (requestService s).filterView = s.filterView := by
  unfold requestService
  split
  · next h => exact startService_filterView s h
  · rfl

@[simp] theorem startQueued_filterView : (startQueued s).filterView = s.filterView := by
  unfold startQueued
  (repeat' split)
  · next h _ => exact startService_filterView _ h
  · rfl
  · rfl

theorem doIf_filterView (c : Bool) {f : State → State} (h : ∀ s, (f s).filterView = s.filterView) :
    (doIf c f s).filterView = s.filterView := by
  unfold doIf
  split
  · exact h s
  · rfl

theorem tickAfter_filterView (brkIn : Bool) (o : TickOrder) : (tickAfter brkIn o s).filterView = s.filterView := by
  simp only [tickAfter, State.onTime_filterView, requestService_filterView]
  rw [doIf_filterView _ _ tickExport_filterView, doIf_filterView _ _ holdoffTick_filterView,
    doIf_filterView _ _ fun t => sheetTick_filterView t brkIn o.sampleFirst]

end

theorem tickBefore_leadsTo (brkIn : Bool) (o : TickOrder) (s : State) : s.filterView.LeadsTo (tickBefore brkIn o s).filterView := by
  simp only [tickBefore]
  rw [doIf_filterView _ _ tickExport_filterView]
  refine .trans (.of_eq ?_) (takeTickEvents_leadsTo _ _)
  rw [doIf_filterView _ _ fun t => by simp, doIf_filterView _ _ fun t => sheetTick_filterView t brkIn o.sampleFirst,
    countTick_filterView, endHoldoffs_filterView]

theorem serviceTick_leadsTo (brkIn : Bool) (o : TickOrder) (s : State) : s.filterView.LeadsTo (serviceTick brkIn o s).filterView := by
  rw [serviceTick, tickAfter_filterView, takeRefresh_filterView]
  exact tickBefore_leadsTo brkIn o s

/-! ## Orders -/

/-- A SET_FRAME that changes the bin geometry came into force (R1, R105). -/
structure FilterView.Reframed (v w : FilterView) : Prop where
  framed : w.geometry ≠ none
  changed : w.geometry ≠ v.geometry
  reading : w.reading = v.reading

/-- What one command may do to the filters outside a reset (R98). -/
def FilterView.Obeys (v w : FilterView) : Prop := v.LeadsTo w ∨ v.Reframed w

section
variable (slot : Slot) (s : State)

theorem geometryChanges_eq_false_iff {old : Option FrameRecord} {r : FrameRecord} :
    geometryChanges old r = false ↔ old.map binMap = some (binMap r) := by
  cases old <;> simp [geometryChanges, binMap, and_assoc]

theorem changeGeometry_geometry (n : Nat) : (changeGeometry n s).filterView.geometry = s.filterView.geometry := by
  simp only [changeGeometry, giveCondition_filterView]
  rfl

theorem changeGeometry_reading (n : Nat) : (changeGeometry n s).filterView.reading = s.filterView.reading := by
  simp only [changeGeometry, giveCondition_filterView]
  rfl

@[simp] theorem clearEdges_filterView : (clearEdges s).filterView = s.filterView := by
  simp [clearEdges]

@[simp] theorem invalidatePositions_filterView : (invalidatePositions s).filterView = s.filterView := by
  simp only [invalidatePositions]; split <;> simp

theorem takeSetFrame_obeys (r : FrameRecord) : s.filterView.Obeys (takeSetFrame slot r s).filterView := by
  simp only [takeSetFrame]
  split
  · simp only [answer_filterView, apply_ite State.filterView, invalidatePositions_filterView, clearEdges_filterView, ite_self]
    have hframe : (s.onCar fun k => { k with frame := some r }).filterView =
        { s.filterView with geometry := some (binMap r) } := rfl
    split
    · next h =>
      have hne : s.filterView.geometry ≠ some (binMap r) := fun he => by
        simp [geometryChanges_eq_false_iff.2 he] at h
      refine .inr ⟨?_, ?_, ?_⟩
      · simp [changeGeometry_geometry, hframe]
      · rw [changeGeometry_geometry, hframe]; exact hne.symm
      · rw [changeGeometry_reading, hframe]
    · next h =>
      have he : s.filterView.geometry = some (binMap r) := geometryChanges_eq_false_iff.1 (Bool.not_eq_true _ ▸ h)
      exact .inl (.of_eq (by rw [hframe, ← he]))
  · exact .inl (.of_eq (by simp))

theorem takeHome_leadsTo : s.filterView.LeadsTo (takeHome slot s).filterView := by
  simp only [takeHome]
  (repeat' split)
  · exact .of_eq (by simp)
  · exact .trans (.trans (.of_eq (by simp)) (startSeek_leadsTo _)) (settle_leadsTo _)
  · exact .of_eq (by simp)

theorem scanFromPark_leadsTo (side : Side) : s.filterView.LeadsTo (scanFromPark slot side s).filterView := by
  simp only [scanFromPark]
  refine (traverseStart_leadsTo side s).trans ?_
  split
  · exact .trans (.of_eq (by simp)) (settle_leadsTo _)
  · exact .of_eq (by simp)

theorem takeScan_leadsTo (n : Nat) : s.filterView.LeadsTo (takeScan slot n s).filterView := by
  simp only [takeScan, scanLater]
  split
  · exact .of_eq (by simp)
  split
  case h_1 side _ =>
    split
    · exact .trans (.trans (.of_eq (by simp)) (parkDecision_leadsTo side _)) (settle_leadsTo _)
    · exact .trans (.of_eq (by simp)) (scanFromPark_leadsTo slot _ side)
  case h_2 => split <;> exact .of_eq (by simp)
  all_goals exact .of_eq (by simp)

theorem takeMoveTo_leadsTo (target : Nat) : s.filterView.LeadsTo (takeMoveTo slot target s).filterView := by
  simp only [takeMoveTo]
  split
  · exact .of_eq (by simp)
  · exact .trans (.trans (.of_eq (by simp)) (startMove_leadsTo ..)) (settle_leadsTo _)

theorem takePark_leadsTo : s.filterView.LeadsTo (takePark slot s).filterView := by
  unfold takePark
  split
  case h_1 => exact .trans (.trans (.of_eq (by simp)) (startPark_leadsTo _)) (settle_leadsTo _)
  all_goals exact .of_eq (by simp)

theorem stopByPark_leadsTo : s.filterView.LeadsTo (stopByPark slot s).filterView :=
  .trans (.trans (.of_eq (by simp [holdStopNow])) (startPark_leadsTo _)) (settle_leadsTo _)

@[simp] theorem supersedeStopEnd_filterView : (supersedeStopEnd s).filterView = s.filterView := by
  unfold supersedeStopEnd; split <;> simp

theorem stopNowIn_leadsTo : s.filterView.LeadsTo (stopNowIn slot s).filterView := by
  unfold stopNowIn
  split
  case h_1 => exact (closeScan_leadsTo ..).trans (stopByPark_leadsTo ..)
  case h_3 | h_4 | h_5 => exact stopByPark_leadsTo ..
  all_goals exact .of_eq (by simp [holdStopNow, stopHoming])

theorem takeStopNow_leadsTo : s.filterView.LeadsTo (takeStopNow slot s).filterView := by
  unfold takeStopNow
  split
  · exact .of_eq (by simp)
  · exact .trans (.of_eq (by simp [clearPlans])) (stopNowIn_leadsTo ..)

theorem takeStopEnd_leadsTo : s.filterView.LeadsTo (takeStopEnd slot s).filterView := by
  unfold takeStopEnd
  split
  · exact .of_eq (by simp)
  split
  · exact takeStopNow_leadsTo ..
  split <;> exact .of_eq (by simp [holdStopEnd])

theorem takeStop_leadsTo (mode : Nat) : s.filterView.LeadsTo (takeStop slot mode s).filterView := by
  unfold takeStop
  split
  · exact takeStopEnd_leadsTo ..
  · exact takeStopNow_leadsTo ..

theorem takeResume_leadsTo : s.filterView.LeadsTo (takeResume slot s).filterView := by
  unfold takeResume
  (repeat' split)
  · exact .trans (.of_eq (by simp)) (declareSheetOn_leadsTo _)
  · exact .of_eq (by simp)
  · exact .of_eq (by simp)

@[simp] theorem takeStandardize_filterView : (takeStandardize slot s).filterView = s.filterView := by
  unfold takeStandardize
  (repeat' split) <;> simp [standardizeParked, holdStd, setDue]

end

/-- Every order but SET_FRAME changes the filters by a close alone. -/
theorem handOver_leadsTo {o : Order} (h : ∀ r, o ≠ .setFrame r) (slot : Slot) (s : State) :
    s.filterView.LeadsTo (handOver slot o s).filterView := by
  cases o with
  | setFrame r => exact absurd rfl (h r)
  | home => exact takeHome_leadsTo ..
  | scan n => exact takeScan_leadsTo ..
  | stop mode => exact takeStop_leadsTo ..
  | moveTo target => exact takeMoveTo_leadsTo ..
  | park => exact takePark_leadsTo ..
  | setTimebase t c =>
    refine .of_eq ?_
    simp only [handOver, takeSetTimebase]
    split <;> simp
  | setCal n v =>
    refine .of_eq ?_
    simp only [handOver, takeSetCal]
    split <;> simp [applyCal]
  | setProfile p =>
    refine .of_eq ?_
    simp only [handOver, takeSetProfile]
    split <;> simp
  | reseed => exact .of_eq (by simp [handOver, takeReseed])
  | standardize => exact .of_eq (takeStandardize_filterView ..)
  | setStd p =>
    refine .of_eq ?_
    simp only [handOver, takeSetStd]
    split <;> simp
  | setSheet p => exact .of_eq rfl
  | resume => exact takeResume_leadsTo ..
  | setAlarm c =>
    refine .of_eq ?_
    simp only [handOver, takeSetAlarm, setAlarmOf]
    split <;> simp
  | ackAlarms mask => exact .of_eq (by simp [handOver, takeAckAlarms])
  | silenceHorn => exact .of_eq rfl
  | setHorn tone =>
    refine .of_eq ?_
    simp only [handOver, takeSetHorn]
    split <;> rfl
  | setExport c => exact .of_eq rfl
  | setGuard c => exact .of_eq rfl
  | clearGuardFault =>
    refine .of_eq ?_
    simp only [handOver, takeClearGuardFault]
    split <;> simp

theorem handOver_obeys (slot : Slot) (o : Order) (s : State) : s.filterView.Obeys (handOver slot o s).filterView := by
  by_cases h : ∃ r, o = .setFrame r
  · obtain ⟨r, rfl⟩ := h
    exact takeSetFrame_obeys slot s r
  · exact .inl (handOver_leadsTo (fun r hr => h ⟨r, hr⟩) slot s)

end Sys2Proof.Machine
end

section
/-! PROOFS. Chapter 05, the law of R98 at the arbiter: the grants within one command carry out one order at most. -/

namespace Sys2Proof.Machine

open Sys2Proof FilterView

/-! ## The card being read -/

namespace FilterView

/-- The view without the card being read: the law speaks of the rest alone. -/
def unread (v : FilterView) : FilterView := { v with reading := none }

/-- How many words the order unit has read of the card it is reading (R209). -/
def wordsRead (v : FilterView) : Nat := v.reading.elim 0 fun c => c.words.length

theorem LeadsTo.unread {v w : FilterView} (h : v.LeadsTo w) : v.unread.LeadsTo w.unread := ⟨h.geometry, rfl, h.filters⟩

theorem Obeys.unread {v w : FilterView} (h : v.Obeys w) : v.unread.Obeys w.unread :=
  h.imp LeadsTo.unread fun h => ⟨h.framed, h.changed, rfl⟩

theorem Obeys.of_eq {v w : FilterView} (h : w = v) : v.Obeys w := .inl (.of_eq h)

/-- A geometry that an order has changed stays through what follows it. -/
theorem Obeys.trans_leadsTo {u v w : FilterView} (huv : u.Obeys v) (hvw : v.LeadsTo w) : u.Obeys w :=
  huv.imp (·.trans hvw) fun h =>
    ⟨hvw.geometry ▸ h.framed, hvw.geometry ▸ h.changed, hvw.reading.trans h.reading⟩

/-- What one grant does: the view stays but for one more word of a card, or the last of a card's fourteen accesses takes it. -/
def Granted (v w : FilterView) : Prop :=
  w.unread = v.unread ∧ w.wordsRead ≤ v.wordsRead + 1 ∨ 13 ≤ v.wordsRead ∧ w.reading = none ∧ v.unread.Obeys w.unread

theorem Granted.of_eq {v w : FilterView} (h : w = v) : v.Granted w := by
  subst h
  exact .inl ⟨rfl, Nat.le_succ _⟩

end FilterView

/-! ## One access -/

section
variable (s : State)

@[simp] theorem markTaken_filterView (slot : Slot) (code : Nat) (o : Option Order) :
    (markTaken slot code o s).filterView = s.filterView := rfl

theorem takeCard_leadsTo (slot : Slot) (code : Nat) {o : Option Order} (h : ∀ r, o ≠ some (.setFrame r)) :
    s.filterView.LeadsTo (takeCard slot code o s).filterView := by
  refine .trans (.of_eq (markTaken_filterView s slot code o)) ?_
  simp only [takeCard, checkCard]
  (repeat' split)
  · exact .of_eq (by simp)
  · exact .refl _
  · exact handOver_leadsTo (fun r hr => h r (congrArg some hr)) ..

theorem takeCard_obeys (slot : Slot) (code : Nat) (o : Option Order) : s.filterView.Obeys (takeCard slot code o s).filterView := by
  rw [← markTaken_filterView s slot code o]
  simp only [takeCard, checkCard]
  (repeat' split)
  · exact .of_eq (by simp)
  · exact .of_eq rfl
  · exact handOver_obeys ..

@[simp] theorem writeAnswer_filterView (a : Answer) : (writeAnswer a s).filterView = s.filterView := by
  simp only [writeAnswer]
  (repeat' split)
  · rfl
  · rfl
  · rw [passSlot_filterView, trimService_filterView]
    rfl

@[simp] theorem refreshAccess_filterView : (refreshAccess s).filterView = s.filterView := by
  simp only [refreshAccess]; (repeat' split) <;> simp

@[simp] theorem profileAccess_filterView : (profileAccess s).filterView = s.filterView := by
  simp only [profileAccess, writePage, completePublication, readStateWord, unpublished]; (repeat' split) <;> simp

/-- The order unit's view of the service it runs (R208). -/
theorem State.onService_filterView (v : Option Service) : (s.onOrd fun o => { o with service := v }).filterView =
    { s.filterView with reading := v.bind Service.card } := rfl

theorem readCard_granted {left : List Slot} {c : CardRead} (h : s.ord.service = some ⟨left, some c⟩) :
    s.filterView.Granted (readCard left c s).filterView := by
  have hreading : s.filterView.reading = some c := congrArg (Option.bind · Service.card) h
  have hwords : s.filterView.wordsRead = c.words.length := by rw [wordsRead, hreading]; rfl
  simp only [readCard]
  split
  · refine .inl ⟨rfl, ?_⟩
    rw [hwords]
    exact (List.length_append ..).le
  · next hfull =>
    rw [trimService_filterView]
    have hobeys := takeCard_obeys (s.onOrd fun o => { o with service := some ⟨left, none⟩ }) c.slot (cardCode c.words)
      (cardOrder c.words)
    rw [State.onService_filterView] at hobeys
    exact .inr ⟨hwords ▸ not_lt.1 hfull, hobeys.elim (·.reading) (·.reading), hobeys.unread⟩

theorem examineSlot_granted {left : List Slot} (h : s.ord.service = some ⟨left, none⟩) :
    s.filterView.Granted (examineSlot left s).filterView := by
  have hreading : s.filterView.reading = none := congrArg (Option.bind · Service.card) h
  unfold examineSlot
  (repeat' split)
  · exact .inl ⟨rfl, Nat.zero_le _⟩
  · exact .inl ⟨rfl, Nat.zero_le _⟩
  · rw [trimService_filterView]
    exact .inl ⟨rfl, Nat.zero_le _⟩

theorem orderUnitAccess_granted : s.filterView.Granted (orderUnitAccess s).filterView := by
  unfold orderUnitAccess
  (repeat' split)
  · exact .of_eq (writeAnswer_filterView ..)
  · exact .of_eq rfl
  · next h => exact readCard_granted s h
  · next h => exact examineSlot_granted s h

theorem grantTo_granted (r : Requester) : s.filterView.Granted (grantTo r s).filterView := by
  cases r with
  | portA => exact .of_eq rfl
  | portB => exact .of_eq rfl
  | orderUnit => exact orderUnitAccess_granted (s.withArbLast .orderUnit)
  | profileEngine => exact .of_eq (profileAccess_filterView _)
  | statusRefresh => exact .of_eq (refreshAccess_filterView _)

theorem grantNext_granted : s.filterView.Granted (grantNext s).filterView := by
  unfold grantNext
  split
  · exact .of_eq rfl
  · exact grantTo_granted ..

end

/-! ## Grants before a port's access -/

/-- Too few grants for the reading of a card take none. -/
theorem grantUntil_unread (wanted : State → Bool) {n : Nat} {s : State} (h : n + s.filterView.wordsRead ≤ 13) :
    (grantUntil wanted n s).filterView.unread = s.filterView.unread := by
  induction n generalizing s with
  | zero => rfl
  | succ n ih =>
    unfold grantUntil
    split
    · rfl
    · obtain ⟨hkept, hwords⟩ | ⟨hfull, _⟩ := grantNext_granted s
      · have hnext : n + (driveLines (grantNext s)).filterView.wordsRead ≤ 13 := by
          rw [driveLines_filterView]
          omega
        exact (ih hnext).trans hkept
      · omega

/-- The four grants before a port's access take one card at most. -/
theorem grantUntil_obeys (wanted : State → Bool) {n : Nat} (h : n ≤ 14) (s : State) :
    s.filterView.unread.Obeys (grantUntil wanted n s).filterView.unread := by
  induction n generalizing s with
  | zero => exact .of_eq rfl
  | succ n ih =>
    unfold grantUntil
    split
    · exact .of_eq rfl
    · have hview : (driveLines (grantNext s)).filterView = (grantNext s).filterView := rfl
      obtain ⟨hkept, _⟩ | ⟨_, hnone, hobeys⟩ := grantNext_granted s
      · have hrest := ih (by omega) (driveLines (grantNext s))
        rwa [hview, hkept] at hrest
      · have hfew : n + (driveLines (grantNext s)).filterView.wordsRead ≤ 13 := by
          rw [hview, wordsRead, hnone]
          exact Nat.le_of_lt_succ h
        rwa [grantUntil_unread wanted hfew, hview]

theorem waitTurn_obeys (p : Requester) (s : State) : s.filterView.unread.Obeys (waitTurn p s).filterView.unread :=
  grantUntil_obeys (hisTurn p) (by decide) s

/-! ## Grants before a card is taken -/

theorem readingCard_eq_false {s : State} (h : s.filterView.reading = none) : readingCard s = false := by
  unfold readingCard
  split
  · next left c hs => simp [State.filterView, hs] at h
  · rfl

/-- None of those that stand before the first that waits waits. -/
theorem not_of_mem_takeWhile_find? {α : Type} [DecidableEq α] {p : α → Bool} {l : List α} {x : α} (h : l.find? p = some x) :
    ∀ y ∈ l.takeWhile (· != x), p y = false := by
  obtain ⟨_, as, bs, rfl, has⟩ := List.find?_eq_some_iff_append.1 h
  clear h
  induction as with
  | nil => simp
  | cons a as ih =>
    rw [List.forall_mem_cons] at has
    by_cases hax : a = x
    · simp [hax]
    · simpa [hax] using And.intro has.1 (ih has.2)

/-- While no card is being read and the order unit may not take one, a grant changes nothing of the view: the order unit writes an
answer, or another requester goes before it. -/
theorem grantNext_filterView {s : State} (hr : s.filterView.reading = none) (hm : ¬mayTake s = true) :
    (grantNext s).filterView = s.filterView := by
  unfold grantNext
  split
  · rfl
  next r hfind =>
  cases r with
  | portA => rfl
  | portB => rfl
  | profileEngine => exact profileAccess_filterView _
  | statusRefresh => exact refreshAccess_filterView _
  | orderUnit =>
    have hturn : hisTurn .orderUnit s = true := by
      simpa [hisTurn] using not_of_mem_takeWhile_find? hfind
    obtain ⟨a, as, ha⟩ : ∃ a as, s.ord.answers = a :: as :=
      List.exists_cons_of_ne_nil fun hnil => hm (by simp [mayTake, hnil, readingCard_eq_false hr, hturn])
    have hwrite : grantTo .orderUnit s = writeAnswer a (s.withArbLast .orderUnit) := by
      simp [grantTo, access, orderUnitAccess, ha]
    rw [hwrite, writeAnswer_filterView]
    rfl

/-- Where no card is being read, the grants before a card is taken keep the view. -/
theorem grantUntil_mayTake_filterView (n : Nat) {s : State} (h : s.filterView.reading = none) :
    (grantUntil mayTake n s).filterView = s.filterView := by
  induction n generalizing s with
  | zero => rfl
  | succ n ih =>
    unfold grantUntil
    split
    · rfl
    · next hm =>
      have hnext : (driveLines (grantNext s)).filterView = s.filterView := grantNext_filterView h hm
      exact (ih (hnext ▸ h)).trans hnext

/-- The grants before a card is taken carry out one order at most, that of the card being read. -/
theorem grantUntil_mayTake_obeys (n : Nat) (s : State) :
    s.filterView.unread.Obeys (grantUntil mayTake n s).filterView.unread := by
  induction n generalizing s with
  | zero => exact .of_eq rfl
  | succ n ih =>
    unfold grantUntil
    split
    · exact .of_eq rfl
    · have hview : (driveLines (grantNext s)).filterView = (grantNext s).filterView := rfl
      obtain ⟨hkept, _⟩ | ⟨_, hnone, hobeys⟩ := grantNext_granted s
      · have hrest := ih (driveLines (grantNext s))
        rwa [hview, hkept] at hrest
      · rwa [grantUntil_mayTake_filterView n (hview ▸ hnone), hview]

/-- An order command: the order of the card being read, then its own. Two SET_FRAME orders might change the geometry to and fro, so its
own is one only where no card is being read. -/
theorem deliver_obeys (slot : Slot) {o : Order} {s : State} (h : ∀ r, o = .setFrame r → s.filterView.reading = none) :
    s.filterView.unread.Obeys (deliver slot o s).filterView.unread := by
  unfold deliver whenRunning
  split
  case h_2 => exact .of_eq rfl
  simp only [apply_ite State.filterView, trimService_filterView]
  have hgrants := grantUntil_mayTake_obeys (takeFuel s) s
  split
  · exact hgrants
  by_cases ho : ∃ r, o = .setFrame r
  · obtain ⟨r, rfl⟩ := ho
    have hown := (takeCard_obeys (grantUntil mayTake (takeFuel s) s) slot (orderCode (.setFrame r)) (some (.setFrame r))).unread
    rwa [grantUntil_mayTake_filterView _ (h r rfl)] at hown
  · have hno : ∀ r, some o ≠ some (.setFrame r) := fun r hr => ho ⟨r, Option.some.inj hr⟩
    exact hgrants.trans_leadsTo (takeCard_leadsTo _ slot (orderCode o) hno).unread

end Sys2Proof.Machine
end

section
/-! PROOFS. Chapter 05, the law of R98 for every command (O35). -/

namespace Sys2Proof.Machine

open Sys2Proof FilterView

/-! ## The ports -/

section
variable (s : State)

@[simp] theorem reportDenial_filterView (port : Port) (kind : AccessKind) (addr : Half) :
    (reportDenial port kind addr s).filterView = s.filterView := by
  unfold reportDenial; split <;> simp

theorem portPhase_obeys {f g : State → State} (hf : (f s).filterView = s.filterView)
    (hg : s.filterView.unread.Obeys (g s).filterView.unread) : s.filterView.unread.Obeys (portPhase s f g).filterView.unread := by
  unfold portPhase
  split
  · exact .of_eq rfl
  · exact .of_eq (congrArg unread hf)
  · exact hg

theorem lowHalfWrite_obeys (addr data : Half) : s.filterView.unread.Obeys (lowHalfWrite addr data s).filterView.unread := by
  unfold lowHalfWrite emptyLatch
  split <;> exact .of_eq (by simp)

theorem highHalfWrite_obeys (addr data : Half) : s.filterView.unread.Obeys (highHalfWrite addr data s).filterView.unread := by
  unfold highHalfWrite emptyLatch
  split
  · exact waitTurn_obeys .portA s
  · exact .of_eq (by simp)

theorem lowHalfRead_obeys (addr : Half) : s.filterView.unread.Obeys (lowHalfRead addr s).filterView.unread := by
  unfold lowHalfRead
  split
  · exact waitTurn_obeys .portA s
  · exact .of_eq (by simp)

theorem highHalfRead_obeys (addr : Half) : s.filterView.unread.Obeys (highHalfRead addr s).filterView.unread := by
  unfold highHalfRead returnHalf
  (repeat' split)
  · exact .of_eq (by simp)
  · exact waitTurn_obeys .portA s
  · exact .of_eq (by simp)

end

/-- What the internal writers have to do is the same. -/
structure SameWork (s t : State) : Prop where
  prof : t.prof = s.prof
  ord : t.ord = s.ord
  refresh : t.refresh = s.refresh

theorem SameWork.trans {s t u : State} (hst : SameWork s t) (htu : SameWork t u) : SameWork s u :=
  ⟨htu.prof.trans hst.prof, htu.ord.trans hst.ord, htu.refresh.trans hst.refresh⟩

theorem SameWork.idle {s t : State} (h : SameWork s t) (hs : Idle s) : Idle t := fun r =>
  have hwaits : waits t r = waits s r := by cases r <;> simp [waits, h.prof, h.ord, h.refresh]
  hwaits.trans (hs r)

theorem reportDenial_sameWork (port : Port) (kind : AccessKind) (addr : Half) (s : State) :
    SameWork s (reportDenial port kind addr s) := by
  unfold reportDenial
  split
  · exact ⟨giveCondition_prof .., giveCondition_ord .., congrArg Surround.refresh (giveCondition_surround ..)⟩
  · exact ⟨rfl, rfl, rfl⟩

/-- With no internal access waiting, a READ's grant changes no internal writer's work. -/
theorem fetchWord_sameWork {s : State} (h : Idle s) (addr : Half) : SameWork s (fetchWord addr s).1 := by
  unfold fetchWord
  (repeat' split)
  · simp only [waitTurn_idle .portB h]
    exact ⟨rfl, rfl, rfl⟩
  · exact reportDenial_sameWork ..
  · exact ⟨rfl, rfl, rfl⟩

/-- With no internal access waiting, a WRITE's grant changes no internal writer's work. -/
theorem depositWord_sameWork {s : State} (h : Idle s) (addr : Half) (w : Word) : SameWork s (depositWord addr w s) := by
  unfold depositWord
  (repeat' split)
  · simp only [waitTurn_idle .portB h]
    exact ⟨rfl, rfl, rfl⟩
  · exact reportDenial_sameWork ..
  · exact ⟨rfl, rfl, rfl⟩

theorem shiftByte_sameWork (t : Transfer) (out : Byte) (s : State) : SameWork s (shiftByte t out s) := ⟨rfl, rfl, rfl⟩

theorem transferByte_sameWork {s : State} (h : Idle s) (x : Byte) : SameWork s (transferByte s x) := by
  simp only [transferByte, readByte, writeByte]
  (repeat' split)
  · exact ⟨rfl, rfl, rfl⟩
  · exact shiftByte_sameWork ..
  · exact (fetchWord_sameWork h _).trans (shiftByte_sameWork ..)
  · exact shiftByte_sameWork ..
  · exact (depositWord_sameWork h _ _).trans (shiftByte_sameWork ..)
  · exact shiftByte_sameWork ..
  · exact shiftByte_sameWork ..

theorem portBBytes_sameWork {s : State} (h : Idle s) (k : TransferKind) (bytes : List Byte) :
    SameWork s (portBBytes k bytes s) :=
  portBBytes_inv (p := SameWork s) (fun _ x ht => ht.trans (transferByte_sameWork (ht.idle h) x))
    (fun _ _ ht => ⟨ht.prof, ht.ord, ht.refresh⟩) k bytes s ⟨rfl, rfl, rfl⟩

/-- A transfer in progress, if there is one, has the kind. -/
def CarriesKind (k : TransferKind) (s : State) : Prop := ∀ t, s.portB.transfer = some t → t.kind = k

theorem Transfer.addrByte_kind (t : Transfer) (x : Byte) : (t.addrByte x).kind = t.kind := by
  unfold Transfer.addrByte
  split <;> rfl

/-- A transfer that neither reads nor writes shifts its bytes and does nothing else (R197). -/
theorem transferByte_other {s : State} (h : CarriesKind .other s) (x : Byte) :
    (transferByte s x).prof = s.prof ∧ CarriesKind .other (transferByte s x) := by
  unfold transferByte
  split
  · exact ⟨rfl, h⟩
  next t ht =>
  have hkind := h t ht
  split
  · exact ⟨rfl, fun u hu => by
      obtain rfl : t.addrByte x = u := Option.some.inj hu
      rw [Transfer.addrByte_kind, hkind]⟩
  · simp only [hkind]
    exact ⟨rfl, fun u hu => by
      obtain rfl : t = u := Option.some.inj hu
      exact hkind⟩

theorem transferBytes_other_prof (bytes : List Byte) {s : State} (h : CarriesKind .other s) :
    (bytes.foldl transferByte s).prof = s.prof := by
  induction bytes generalizing s with
  | nil => rfl
  | cons x xs ih =>
    obtain ⟨hprof, hkind⟩ := transferByte_other h x
    exact (ih hkind).trans hprof

theorem portBBytes_other_prof (bytes : List Byte) (s : State) : (portBBytes .other bytes s).prof = s.prof := by
  unfold portBBytes
  (repeat' split)
  · rfl
  · next hc =>
    refine transferBytes_other_prof bytes fun t ht => ?_
    simpa [continues, ht] using hc
  · exact transferBytes_other_prof bytes (s := beginTransfer .other s) fun t ht => by
      obtain rfl : _ = t := Option.some.inj ht
      rfl

/-! ## Records -/

/-- The filtered profiles of a state: every F with its age, and the MDFs (R90). -/
def State.filteredProfiles (s : State) : Per4 (List FilterEntry) × Per4 Int := (s.prof.table, s.prof.mdf)

@[simp] theorem closeOpenBin_filteredProfiles (s : State) : (closeOpenBin s).filteredProfiles = s.filteredProfiles := by
  unfold closeOpenBin; split <;> rfl

@[simp] theorem markLoss_filteredProfiles (loss : Bool) (s : State) : (markLoss loss s).filteredProfiles = s.filteredProfiles := by
  unfold markLoss; split <;> rfl

@[simp] theorem moveToBin_filteredProfiles (sc : ScanRecord) (b : Nat) (s : State) :
    (moveToBin sc b s).filteredProfiles = s.filteredProfiles := closeOpenBin_filteredProfiles s

@[simp] theorem addToBin_filteredProfiles (b : Nat) (v : Per3 (Option Nat)) (s : State) :
    (addToBin b v s).filteredProfiles = s.filteredProfiles := rfl

theorem binRecord_filteredProfiles (r : SampleRecord) (s : State) : (binRecord r s).filteredProfiles = s.filteredProfiles := by
  simp only [binRecord]
  (repeat' split) <;> simp

/-- A record changes the bins of the open scan, and no filtered profile. -/
theorem formRecord_filteredProfiles (c : Capture) (s : State) : (formRecord c s).filteredProfiles = s.filteredProfiles := by
  rw [formRecord_eq]
  cases hscan : s.car.traverse.isScanning with
  | true =>
    rw [routeRecord_scanning (s := judgeRecord (sampleRecord s c) (recordBegun c s)) hscan, binRecord_filteredProfiles]
    rfl
  | false =>
    obtain ⟨hprof, _⟩ := routeRecord_unscanned (r := sampleRecord s c) (s := judgeRecord (sampleRecord s c) (recordBegun c s)) hscan
    unfold State.filteredProfiles
    rw [hprof]
    rfl

/-! ## Every command -/

/-- What a command leaves of the filters outside the resets: the law's steps, or, while it changes the open scan, none of them. -/
def KeepsFilterLaw (s t : State) : Prop :=
  s.filterView.unread.Obeys t.filterView.unread ∨ t.filteredProfiles = s.filteredProfiles

namespace KeepsFilterLaw

theorem of_eq {s t : State} (h : t.filterView = s.filterView) : KeepsFilterLaw s t := .inl (.of_eq (congrArg unread h))

theorem of_leadsTo {s t : State} (h : s.filterView.LeadsTo t.filterView) : KeepsFilterLaw s t := .inl (.inl h.unread)

theorem of_prof {s t : State} (h : t.prof = s.prof) : KeepsFilterLaw s t :=
  .inr (by simp only [State.filteredProfiles, h])

end KeepsFilterLaw

section
variable {s : State} {f : State → State}

theorem whenRunning_leadsTo (h : s.filterView.LeadsTo (f s).filterView) : s.filterView.LeadsTo (whenRunning s f).filterView :=
  whenRunning_inv (p := fun t => s.filterView.LeadsTo t.filterView) (.refl _) fun _ => h

theorem whenReleased_leadsTo (h : s.filterView.LeadsTo (f s).filterView) : s.filterView.LeadsTo (whenReleased s f).filterView :=
  whenReleased_inv (p := fun t => s.filterView.LeadsTo t.filterView) (.refl _) fun _ => h

theorem whenRunning_filterView (h : (f s).filterView = s.filterView) : (whenRunning s f).filterView = s.filterView :=
  whenRunning_inv (p := fun t => t.filterView = s.filterView) rfl fun _ => h

end

section
variable (s : State)

theorem homeLine_leadsTo (b : Beam) (active : Bool) : s.filterView.LeadsTo (homeLine b active s).filterView := by
  simp only [homeLine]
  refine .trans (.of_eq (State.onInputs_filterView s _)) (whenReleased_leadsTo ?_)
  split
  · exact zeroSeeking_leadsTo ..
  · exact .refl _

theorem limitLine_leadsTo (b : Beam) (l : Limit) (asserted : Bool) : s.filterView.LeadsTo (limitLine b l asserted s).filterView := by
  simp only [limitLine]
  refine .trans (.of_eq (State.onInputs_filterView s _)) (whenReleased_leadsTo ?_)
  split
  · exact enterFaulted_leadsTo ..
  · exact .refl _

theorem frameOkLine_leadsTo (low : Bool) : s.filterView.LeadsTo (frameOkLine low s).filterView := by
  simp only [frameOkLine]
  refine .trans (.of_eq (w := ({ s with frameOk := !low } : State).filterView) rfl) (whenReleased_leadsTo ?_)
  split
  · exact enterFaulted_leadsTo ..
  · exact .refl _

theorem drvOkLine_leadsTo (b : Beam) (low : Bool) : s.filterView.LeadsTo (drvOkLine b low s).filterView := by
  simp only [drvOkLine]
  refine .trans (.of_eq (State.onInputs_filterView s _)) (whenReleased_leadsTo ?_)
  split
  · exact enterFaulted_leadsTo ..
  · exact .refl _

theorem beginClear_filterView : (beginClear s).filterView = s.filterView := by
  unfold beginClear; split <;> rfl

theorem endClear_filterView : (endClear s).filterView = s.filterView := by
  unfold endClear; split <;> rfl

theorem arbitrate_obeys : s.filterView.unread.Obeys (arbitrate s).filterView.unread := by
  unfold arbitrate
  split
  · exact .of_eq rfl
  · exact .of_eq rfl
  · obtain ⟨hkept, _⟩ | ⟨_, _, hobeys⟩ := grantNext_granted s
    · exact .of_eq hkept
    · exact hobeys

theorem strobe_filterView : (strobe s).filterView = s.filterView := by
  simp [strobe]

theorem completeTransfer_filterView (f : HeadFrame) : (completeTransfer f s).filterView = s.filterView := by
  simp only [completeTransfer]; split <;> simp

theorem endHoldoff_filterView (k : AlarmKind) : (endHoldoff k s).filterView = s.filterView := by
  simp only [endHoldoff, moveEntry]; split <;> simp

theorem frameStart_filterView : (frameStart s).filterView = s.filterView := by
  unfold frameStart; (repeat' split) <;> simp

theorem frameEnd_filterView : (frameEnd s).filterView = s.filterView := by
  unfold frameEnd; (repeat' split) <;> simp

end

theorem KeepsFilterLaw.of_done {s u t : State} (hu : KeepsFilterLaw s u) (h : done u = .next t) : KeepsFilterLaw s t := by
  obtain rfl : driveLines u = t := Host.Outcome.next.inj h
  exact hu

/-- Outside the resets every command keeps the law, where a port B transfer finds no internal access waiting and a SET_FRAME finds no
card being read. -/
theorem exec_keepsFilterLaw {c : Instr} {s t : State} (hpin : c ≠ .pinReset) (hsoft : ∀ v, c ≠ .softReset v)
    (hidle : (∃ bs, c = .portBRead bs ∨ c = .portBWrite bs) → Idle s)
    (hframe : (∃ slot r, c = .setFrame slot r) → s.filterView.reading = none) (h : exec c s = .next t) : KeepsFilterLaw s t := by
  have quiet {f : State → State} (hf : (f s).filterView = s.filterView) : KeepsFilterLaw s (whenRunning s f) :=
    .of_eq (whenRunning_filterView hf)
  have event {f : State → State} (hf : s.filterView.LeadsTo (f s).filterView) : KeepsFilterLaw s (whenRunning s f) :=
    .of_leadsTo (whenRunning_leadsTo hf)
  have order {slot : Slot} {o : Order} (ho : ∀ r, o ≠ .setFrame r) : KeepsFilterLaw s (deliver slot o s) :=
    .inl (deliver_obeys slot fun r hr => absurd hr (ho r))
  cases c with
  | pinReset => exact absurd rfl hpin
  | softReset v => exact absurd rfl (hsoft v)
  | startUpClear => exact .of_done (.of_eq (beginClear_filterView s)) h
  | startUpClearEnd => exact .of_done (.of_eq (endClear_filterView s)) h
  | setNoticeMask value => exact .of_done (quiet rfl) h
  | noticeClear value => exact .of_done (quiet rfl) h
  | nudge high value => exact .of_done (quiet (requestService_filterView s)) h
  | registerWriteIgnored target value => exact .of_done (.of_eq rfl) h
  | portALowHalfWrite addr data => exact .of_done (.inl (portPhase_obeys s rfl (lowHalfWrite_obeys s addr data))) h
  | portAHighHalfWrite addr data => exact .of_done (.inl (portPhase_obeys s rfl (highHalfWrite_obeys s addr data))) h
  | portALowHalfRead addr => exact .of_done (.inl (portPhase_obeys s rfl (lowHalfRead_obeys s addr))) h
  | portAHighHalfRead addr => exact .of_done (.inl (portPhase_obeys s rfl (highHalfRead_obeys s addr))) h
  | portBRead bytes => exact .of_done (.of_prof (portBBytes_sameWork (hidle ⟨bytes, .inl rfl⟩) .read bytes).prof) h
  | portBWrite bytes => exact .of_done (.of_prof (portBBytes_sameWork (hidle ⟨bytes, .inr rfl⟩) .write bytes).prof) h
  | portBOtherCommand command bytes => exact .of_done (.of_prof (portBBytes_other_prof bytes s)) h
  | portBTransferEnd => exact .of_done (.of_eq (State.onPortB_filterView s _)) h
  | arbiterGrant => exact .of_done (.inl (arbitrate_obeys s)) h
  | serviceTick brkIn o => exact .of_done (event (serviceTick_leadsTo brkIn o s)) h
  | queuedCardService => exact .of_done (quiet (startQueued_filterView s)) h
  | sampleStrobe => exact .of_done (quiet (strobe_filterView s)) h
  | headLinkTransferComplete f => exact .of_done (quiet (completeTransfer_filterView s f)) h
  | formSampleRecord =>
    refine .of_done (.inr (whenRunning_inv (p := fun u => u.filteredProfiles = s.filteredProfiles) rfl fun _ => ?_)) h
    split
    · rfl
    · exact formRecord_filteredProfiles ..
  | recordTaken =>
    refine .of_done (quiet ?_) h
    split <;> simp
  | sampleBreak =>
    refine .of_done (event ?_) h
    split
    · exact takeSampleBreak_leadsTo s
    · exact .refl _
  | externalBreak => exact .of_done (event (takeExternalBreak_leadsTo s)) h
  | probeSheetOn => exact .of_done (event (takeProbeSheetOn_leadsTo s)) h
  | quadratureEdge b d => exact .of_done (.of_leadsTo (whenReleased_leadsTo (encoderEdge_leadsTo b d s))) h
  | moveTimeout => exact .of_done (event (endTimedOut_leadsTo s)) h
  | homeSwitch b active => exact .of_done (.of_leadsTo (homeLine_leadsTo s b active)) h
  | limitSwitch b l asserted => exact .of_done (.of_leadsTo (limitLine_leadsTo s b l asserted)) h
  | frameOkLow low => exact .of_done (.of_leadsTo (frameOkLine_leadsTo s low)) h
  | drvOkLow b low => exact .of_done (.of_leadsTo (drvOkLine_leadsTo s b low)) h
  | setFrame slot r => exact .of_done (.inl (deliver_obeys slot fun _ _ => hframe ⟨slot, r, rfl⟩)) h
  | home slot => exact .of_done (order (o := .home) nofun) h
  | scan slot n => exact .of_done (order (o := .scan n) nofun) h
  | stopEnd slot => exact .of_done (order (o := .stop 0) nofun) h
  | stopNow slot => exact .of_done (order (o := .stop 1) nofun) h
  | moveTo slot target => exact .of_done (order (o := .moveTo target) nofun) h
  | park slot => exact .of_done (order (o := .park) nofun) h
  | setTimebase slot tick sample => exact .of_done (order (o := .setTimebase tick sample) nofun) h
  | setCal slot channel v => exact .of_done (order (o := .setCal channel v) nofun) h
  | setProfile slot p => exact .of_done (order (o := .setProfile p) nofun) h
  | reseed slot => exact .of_done (order (o := .reseed) nofun) h
  | standardize slot => exact .of_done (order (o := .standardize) nofun) h
  | setStd slot p => exact .of_done (order (o := .setStd p) nofun) h
  | dwellEnd => exact .of_done (event (endDwell_leadsTo s)) h
  | setSheet slot p => exact .of_done (order (o := .setSheet p) nofun) h
  | resume slot => exact .of_done (order (o := .resume) nofun) h
  | holdoffEnd k => exact .of_done (quiet (endHoldoff_filterView s k)) h
  | setAlarm slot card => exact .of_done (order (o := .setAlarm card) nofun) h
  | ackAlarms slot mask => exact .of_done (order (o := .ackAlarms mask) nofun) h
  | silenceHorn slot => exact .of_done (order (o := .silenceHorn) nofun) h
  | setHorn slot tone => exact .of_done (order (o := .setHorn tone) nofun) h
  | setExport slot card => exact .of_done (order (o := .setExport card) nofun) h
  | setGuard slot card => exact .of_done (order (o := .setGuard card) nofun) h
  | clearGuardFault slot => exact .of_done (order (o := .clearGuardFault) nofun) h
  | flashHalf => exact .of_done (quiet rfl) h
  | hornHalfPeriod =>
    refine .of_done (quiet ?_) h
    split <;> rfl
  | exportFrameStart => exact .of_done (quiet (frameStart_filterView s)) h
  | exportFrameEnd => exact .of_done (quiet (frameEnd_filterView s)) h
  | publicationComplete =>
    refine .of_done (.inl (whenRunning_inv (p := fun u => s.filterView.unread.Obeys u.filterView.unread) (.of_eq rfl) fun _ => ?_)) h
    split
    · have hlast : (grantTo .profileEngine (waitTurn .profileEngine s)).filterView = (waitTurn .profileEngine s).filterView :=
        profileAccess_filterView _
      exact hlast ▸ waitTurn_obeys .profileEngine s
    · exact .of_eq rfl

/-- A new geometry in the words of R1: a frame record is in force whose bin map no frame record before had. -/
theorem FilterView.Reframed.frame {s t : State} (h : s.filterView.unread.Reframed t.filterView.unread) :
    ∃ r, t.car.frame = some r ∧
      ∀ f, s.car.frame = some f → ¬(f.bin0Pos = r.bin0Pos ∧ f.binW = r.binW ∧ f.nbins = r.nbins) := by
  have hframed : t.car.frame.map binMap ≠ none := h.framed
  obtain ⟨r, hr⟩ := Option.ne_none_iff_exists'.1 fun hnone => hframed (congrArg (Option.map binMap) hnone)
  refine ⟨r, hr, fun f hf ⟨hpos, hw, hn⟩ => h.changed ?_⟩
  show t.car.frame.map binMap = s.car.frame.map binMap
  simp [hr, hf, binMap, hpos, hw, hn]

/-- Settles O35: outside the resets a command keeps the law (`exec_keepsFilterLaw`), whose steps change the filtered profiles by a new
geometry or by the one close that finds edges. -/
theorem filtersChangeOnlyAtClosesAndResets : Obligations.FiltersChangeOnlyAtClosesAndResets := by
  unfold Obligations.FiltersChangeOnlyAtClosesAndResets
  intro c s t hidle hreading h hchanged
  by_cases hpin : c = .pinReset
  · exact .inl hpin
  by_cases hsoft : ∃ v, c = .softReset v
  · exact .inr (.inl hsoft)
  have hnone (hc : ∃ slot r, c = .setFrame slot r) : s.filterView.reading = none := by
    refine Option.eq_none_iff_forall_ne_some.2 fun x hx => ?_
    obtain ⟨⟨left, card⟩, hservice, rfl : card = some x⟩ := Option.bind_eq_some_iff.1 hx
    exact hreading hc left x hservice
  have hdiffer : t.filteredProfiles ≠ s.filteredProfiles := fun he =>
    hchanged.elim (· (congrArg Prod.fst he)) (· (congrArg Prod.snd he))
  refine .inr (.inr ?_)
  obtain hlaw | hframe := (exec_keepsFilterLaw hpin (fun v hv => hsoft ⟨v, hv⟩) hidle hnone h).resolve_right hdiffer
  · obtain ⟨hkept, _⟩ | ⟨e, he, ⟨hedges, hsource⟩, _⟩ := hlaw.filters
    · exact absurd (congrArg (fun r : FilterRecord => (r.table, r.mdf)) hkept) hdiffer
    · obtain ⟨sc, a, z, hsc, hfound, rfl⟩ := wouldFind_eq_some_iff.1 he
      exact .inr ⟨sc, a, z, hsc, hfound, hedges, hsource⟩
  · exact .inl hframe.frame

end Sys2Proof.Machine
end

section
/-! PROOFS. Chapter 06: STANDARDIZE and SET_STD by the traverse state (O51). -/

namespace Sys2Proof.Machine

open Sys2Proof

/-! ## Orders of the standardization unit -/

section
variable {s : State} {c : Instr} {slot : Slot} {o : Order} {k : ResultCode} {v : Word}

/-- An order that the standardization unit answers at once leaves the unit's change and the answer; what the answer tells of the unit
is as it stood before. -/
theorem leaves_onStd (f : StdUnit → StdUnit) (hs : CardFree s slot) (hp : Passes slot o) (hc : exec c s = done (deliver slot o s))
    (hh : ∀ u : State, u.car = s.car → u.std = s.std → handOver slot o u = answer slot k v (u.onStd f)) :
    ∃ t, exec c s = .next t ∧ OrderLeaves s t slot o [answerOf slot k v] (s.onStd f) :=
  leaves_now hs hp hc .orderUnit (hh _ (markTaken_car ..) rfl) rfl

/-- An order whose card is held leaves its owner's effect and no answer, where the effect stands apart from the card's traces. -/
theorem leaves_held (g : State → State) (hs : CardFree s slot) (hp : Passes slot o) (hc : exec c s = done (deliver slot o s))
    (hh : ∀ u : State, u.car = s.car → u.std = s.std → handOver slot o u = g u)
    (hg : ∀ m a r, g { s with mem := m, arbLast := a, ord := r } = { g s with mem := m, arbLast := a, ord := r }) :
    ∃ t, exec c s = .next t ∧ OrderLeaves s t slot o [] (g s) := by
  refine leaves_now hs hp hc .orderUnit ?_ (hg s.mem s.arbLast s.ord)
  rw [hh _ (markTaken_car ..) rfl, List.append_nil]
  exact hg _ _ _

end

/-! ## STANDARDIZE (R112, R114) -/

/-- A STANDARDIZE card taken in the state waits for a dwell that falls due (R112). -/
def Traverse.DwellWaits (t : Traverse) : Prop :=
  t.isScanning = true ∨ (∃ x, t = .breakPark x) ∨ (∃ h, t = .probing h) ∨ t = .positioning .returning

/-- No dwell comes of the state, so that STANDARDIZE is refused (R112). -/
def Traverse.NoDwell (t : Traverse) : Prop :=
  t.isHoming = true ∨ t = .positioning .point ∨ t = .positioning .park ∨ ∃ p, t = .singlePoint p

theorem Traverse.isStopped_iff {t : Traverse} : t.isStopped = true ↔ t = .halted ∨ t = .faulted := by
  cases t <;> simp [Traverse.isStopped]

theorem Traverse.isScanning_iff {t : Traverse} : t.isScanning = true ↔ ∃ dir, t = .scanning dir := by
  cases t <;> simp [Traverse.isScanning]

theorem Traverse.isHoming_iff {t : Traverse} : t.isHoming = true ↔ ∃ phase, t = .homing phase := by
  cases t <;> simp [Traverse.isHoming]

section
variable {s : State} (slot : Slot)

/-- In HALTED and FAULTED a card is NOT_READY, whether or not one is held already. -/
theorem takeStandardize_stopped (h : s.car.traverse.isStopped = true) : takeStandardize slot s = answer slot .notReady 0 s :=
  if_pos h

/-- The unit holds one card at a time (R112). -/
theorem takeStandardize_second (h : ¬s.car.traverse.isStopped = true) (hcard : s.std.card ≠ none) :
    takeStandardize slot s = answer slot .busy 0 s := by
  rw [takeStandardize, if_neg h, if_pos (Option.isSome_iff_ne_none.2 hcard)]

theorem takeStandardize_noDwell (h : s.car.traverse.NoDwell) : takeStandardize slot s = answer slot .busy 0 s := by
  obtain hhoming | hpoint | hpark | ⟨target, hsingle⟩ := h
  · obtain ⟨phase, hhoming⟩ := Traverse.isHoming_iff.1 hhoming
    simp [takeStandardize, hhoming, Traverse.isStopped]
  · simp [takeStandardize, hpoint, Traverse.isStopped]
  · simp [takeStandardize, hpark, Traverse.isStopped]
  · simp [takeStandardize, hsingle, Traverse.isStopped]

theorem takeStandardize_dwellWaits (hcard : s.std.card = none) (h : s.car.traverse.DwellWaits) :
    takeStandardize slot s = holdStd slot (setDue s) := by
  obtain hscanning | ⟨side, hbreak⟩ | ⟨holding, hprobing⟩ | hreturning := h
  · obtain ⟨dir, hscanning⟩ := Traverse.isScanning_iff.1 hscanning
    simp [takeStandardize, hscanning, hcard, Traverse.isStopped]
  · simp [takeStandardize, hbreak, hcard, Traverse.isStopped]
  · simp [takeStandardize, hprobing, hcard, Traverse.isStopped]
  · simp [takeStandardize, hreturning, hcard, Traverse.isStopped]

/-- The dwell in progress serves the card. -/
theorem takeStandardize_standardizing {side : Side} (hcard : s.std.card = none) (h : s.car.traverse = .standardizing side) :
    takeStandardize slot s = holdStd slot s := by
  simp [takeStandardize, h, hcard, Traverse.isStopped]

theorem takeStandardize_parked {side : Side} (hcard : s.std.card = none) (h : s.car.traverse = .parked side) :
    takeStandardize slot s = standardizeParked slot side s := by
  simp [takeStandardize, h, hcard, Traverse.isStopped]

end

/-! ## SET_STD (R109, R110) -/

/-- The count has reached an interval that is not 0 (R110). -/
def intervalReached (u : StdUnit) (p : StdSettings) : Bool := decide (p.interval ≠ 0 ∧ p.interval ≤ u.count)

theorem testDue_eq (u : StdUnit) : testDue u = { u with due := u.due || intervalReached u u.settings } := by
  unfold testDue intervalReached
  split
  · next h => simp [h]
  · next h => simp [h]

/-- The values replace the settings, and the test of R110 is made on them. -/
def StdUnit.withSettings (u : StdUnit) (p : StdSettings) : StdUnit :=
  { u with settings := p, due := u.due || intervalReached u p }

theorem takeSetStd_standardizing {s : State} (h : s.car.traverse.isStandardizing = true) (slot : Slot) (p : StdSettings) :
    takeSetStd slot p s = answer slot .busy 0 s :=
  if_pos h

/-- The result value tells that the flag was clear and the test has set it. -/
theorem takeSetStd_replaces {s : State} (h : s.car.traverse.isStandardizing = false) (slot : Slot) (p : StdSettings) :
    takeSetStd slot p s = answer slot .ok (if intervalReached s.std p = true ∧ s.std.due = false then 1 else 0)
      (s.onStd (·.withSettings p)) := by
  have hunit : testDue { s.std with settings := p } = s.std.withSettings p := testDue_eq _
  have hvalue : BitVec.ofNat 32 (bit (!s.std.due && (s.std.withSettings p).due) 0) =
      if intervalReached s.std p = true ∧ s.std.due = false then 1 else 0 := by
    cases hdue : s.std.due <;> cases hr : intervalReached s.std p <;> simp [StdUnit.withSettings, bit, hdue, hr]
  rw [takeSetStd, if_neg (Bool.eq_false_iff.1 h), hunit]
  exact congrArg (answer slot .ok · _) hvalue

/-- Settles O51: the unit's answer or effect by the traverse state, carried to the command by `leaves_onStd` and `leaves_held`. -/
theorem standardizeAndSetStd : Obligations.StandardizeAndSetStd := by
  unfold Obligations.StandardizeAndSetStd
  refine ⟨?standardize, ?setStd⟩
  case standardize =>
    intro s slot hs hp stopped waits never
    have hstopped : s.car.traverse.isStopped = true ↔ stopped := Traverse.isStopped_iff
    refine ⟨fun hst => ?notReady, fun hst hbusy => ?busy, fun hcard hw => ?waits, fun side hcard ht => ?joins,
      fun side hcard ht => ?begins⟩
    case notReady => exact leaves_onStd id hs hp rfl fun u hu _ => takeStandardize_stopped slot (hu ▸ hstopped.2 hst)
    case busy =>
      refine leaves_onStd id hs hp rfl fun u hu hstd => ?_
      obtain hcard | hnever := hbusy
      · exact takeStandardize_second slot (hu ▸ hstopped.not.2 hst) (hstd ▸ hcard)
      · exact takeStandardize_noDwell slot (hu ▸ hnever)
    case waits =>
      exact leaves_held (fun u => holdStd slot (setDue u)) hs hp rfl
        (fun u hu hstd => takeStandardize_dwellWaits slot (hstd ▸ hcard) (hu ▸ hw)) fun _ _ _ => rfl
    case joins =>
      exact leaves_held (holdStd slot) hs hp rfl
        (fun u hu hstd => takeStandardize_standardizing slot (hstd ▸ hcard) (hu ▸ ht)) fun _ _ _ => rfl
    case begins =>
      exact leaves_held (standardizeParked slot side) hs hp rfl
        (fun u hu hstd => takeStandardize_parked slot (hstd ▸ hcard) (hu ▸ ht)) fun _ _ _ => rfl
  case setStd =>
    intro s slot p hs hp reached
    refine ⟨fun hdwell => ?busy, fun hdwell => ?replaces⟩
    case busy => exact leaves_onStd id hs hp rfl fun u hu _ => takeSetStd_standardizing (hu ▸ hdwell) slot p
    case replaces =>
      exact leaves_onStd (v := if intervalReached s.std p = true ∧ s.std.due = false then 1 else 0) (·.withSettings p) hs hp rfl
        fun u hu hstd => hstd ▸ takeSetStd_replaces (hu ▸ hdwell) slot p

end Sys2Proof.Machine
end

section
/-! PROOFS. Chapters 07, 09 and 11, settings orders: SET_SHEET, SET_EXPORT and SET_GUARD (O53). -/

namespace Sys2Proof.Machine

open Sys2Proof

/-! ## The guard after SET_GUARD (R205) -/

section
variable {c : GuardCard}

/-- The range record that a SET_GUARD card for index 0 to 7 carries. -/
def cardRange (c : GuardCard) : GuardRange := ⟨c.p1, c.p2, permissionSet c.p3, c.p4 == 1⟩

theorem setGuardOf_range (h : c.index < 8) (g : AccessGuard) :
    setGuardOf c g = { g with ranges := g.ranges.set c.index (cardRange c) h } :=
  dif_pos h

theorem setGuardOf_policy (h : ¬c.index < 8) (g : AccessGuard) : setGuardOf c g = { g with deny := c.p1 == 1 } :=
  dif_neg h

@[simp] theorem setGuardOf_fault (c : GuardCard) (g : AccessGuard) : (setGuardOf c g).fault = g.fault := by
  unfold setGuardOf; split <;> rfl

/-- The record of the card's index is replaced whole, and no other. -/
theorem setGuardOf_ranges (c : GuardCard) (g : AccessGuard) (i : Fin 8) :
    (setGuardOf c g).ranges[i] = if i.val = c.index then cardRange c else g.ranges[i] := by
  by_cases h : c.index < 8
  · simp [setGuardOf_range h, Vector.getElem_set, eq_comm]
  · have hi : i.val ≠ c.index := by omega
    simp [setGuardOf_policy h, hi]

/-- A card in range that names no record names the policy. -/
theorem index_eq_of_guardInRange (h : GuardInRange c = true) (hi : ¬c.index < 8) : c.index = 8 := by
  simp only [GuardInRange, hi, if_false, Bool.and_eq_true, decide_eq_true_eq] at h
  exact h.1

theorem setGuardOf_deny (h : GuardInRange c = true) (g : AccessGuard) :
    (setGuardOf c g).deny = if c.index = 8 then c.p1 == 1 else g.deny := by
  by_cases hi : c.index < 8
  · have hne : c.index ≠ 8 := by omega
    simp [setGuardOf_range hi, hne]
  · simp [setGuardOf_policy hi, index_eq_of_guardInRange h hi]

end

/-! ## The three orders -/

/-- No output line follows the guard. -/
theorem driveLines_onGuard (s : State) (f : AccessGuard → AccessGuard) : driveLines (s.onGuard f) = (driveLines s).onGuard f := rfl

/-- SET_GUARD leaves the guard's change and the answer. -/
theorem setGuard_leaves {s : State} {slot : Slot} {c : GuardCard} (hs : CardFree s slot) (hp : Passes slot (.setGuard c)) :
    ∃ t, exec (.setGuard slot c) s = .next t ∧ CardAnswered s t slot (.setGuard c) [answerOf slot .ok 0] ∧
      withoutCard s t = s.onGuard (setGuardOf c) := by
  obtain ⟨t, ht, hanswered, hrest⟩ : ∃ t, exec (.setGuard slot c) s = .next t ∧
      OrderLeaves s t slot (.setGuard c) [answerOf slot .ok 0] (s.onGuard (setGuardOf c)) :=
    leaves_now hs hp rfl .orderUnit rfl rfl
  exact ⟨t, ht, hanswered, hrest.trans (hs.settled.update (·.onGuard _) (driveLines_onGuard s _))⟩

/-- Settles O53: each owner replaces its settings and answers at once (`leaves_now`); the guard's change is read field by field. -/
theorem settingsOfSheetExportAndGuard : Obligations.SettingsOfSheetExportAndGuard := by
  unfold Obligations.SettingsOfSheetExportAndGuard
  intro s slot hs
  refine ⟨fun p hp => ?sheet, fun c hp => ?exportLink, fun c hp => ?guard⟩
  case sheet => exact leaves_now hs hp rfl .orderUnit rfl rfl
  case exportLink => exact leaves_now hs hp rfl .orderUnit rfl rfl
  case guard =>
    obtain ⟨t, ht, hanswered, hrest⟩ := setGuard_leaves hs hp
    have hguard : t.guard = setGuardOf c s.guard := congrArg State.guard hrest
    refine ⟨t, ht, hanswered, ?fault, fun i => ?ranges, ?policy, ?kept⟩
    case fault => rw [hguard, setGuardOf_fault]
    case ranges => rw [hguard]; exact setGuardOf_ranges c s.guard i
    case policy => rw [hguard, setGuardOf_deny hp.inRange]
    case kept => rw [hrest]; rfl

end Sys2Proof.Machine
end

section
/-! PROOFS. Chapter 08, alarms and annunciator: the alarm unit's orders (O55 to O58), the end of a holdoff (O59), and the ACCESS entry
when the fault record is emptied (O54). -/

namespace Sys2Proof.Machine

open Sys2Proof

/-! ## The table read entry by entry -/

theorem any_entries_iff (a : AlarmUnit) (p : AlarmEntry → Bool) :
    a.entries.toList.any p = true ↔ ∃ i : Fin 12, p a.entries[i] = true := by
  simp only [List.any_eq_true, Vector.mem_toList_iff, Vector.mem_iff_getElem]
  constructor
  · rintro ⟨_, ⟨i, hi, rfl⟩, hp⟩
    exact ⟨⟨i, hi⟩, hp⟩
  · rintro ⟨i, hp⟩
    exact ⟨_, ⟨i, i.isLt, rfl⟩, hp⟩

theorem AlarmEntry.unacked_iff (e : AlarmEntry) : e.unacked = true ↔ e.state = .activeUnacked ∨ e.state = .returnedUnacked := by
  simp [AlarmEntry.unacked]

/-- The horn sounds for an unacknowledged enabled MAJOR entry while the silence flag is clear (R162). -/
theorem hornSounds_iff (a : AlarmUnit) : hornSounds a = true ↔ a.silence = false ∧
    ∃ i : Fin 12, a.entries[i].enabled = true ∧ a.entries[i].major = true ∧ a.entries[i].unacked = true := by
  rw [hornSounds, Bool.and_eq_true, any_entries_iff, and_comm]
  simp [and_assoc]

theorem hornSounds_silenced {a : AlarmUnit} (h : a.silence = true) : hornSounds a = false := by
  simp [hornSounds, h]

/-- LAMP follows the flash while an entry is unacknowledged (R161). -/
theorem lampLine_flashing {a : AlarmUnit} (h : ∃ i : Fin 12, a.entries[i].unacked = true) : lampLine a = a.flashOn := by
  simp [lampLine, lampPattern, (any_entries_iff a _).2 h]

/-- With every entry acknowledged LAMP does not look at the flash (R161). -/
theorem lampLine_still {a : AlarmUnit} (h : ∀ i : Fin 12, a.entries[i].unacked = false) (b : Bool) :
    lampLine { a with flashOn := b } = lampLine a := by
  have hnone : a.entries.toList.any AlarmEntry.unacked = false := by
    rw [← Bool.not_eq_true, any_entries_iff]
    simpa using h
  simp only [lampLine, lampPattern, hnone]
  cases a.entries.toList.any (fun e => e.state == .activeAcked) with
  | true => rfl
  | false => rfl

/-! ## The lines of the annunciator -/

/-- Where the horn's record and its sounding agree, HORN keeps any level while the horn sounds, and the low level while it is silent
(R164). -/
theorem horn_level {sounds b : Bool} (hb : sounds = false → b = false) : (sounds && (!sounds || b)) = b := by
  cases sounds with
  | true => rfl
  | false => exact (hb rfl).symm

section
variable {s : State} (h : Settled s)
include h

theorem Settled.lamp : s.pins.lamp = lampLine s.alarm := congrArg Pins.lamp h.pins

theorem Settled.horn : s.pins.horn = hornLine s := congrArg Pins.horn h.pins

/-- A HORN that does not sound is low (R164). -/
theorem Settled.horn_silent (hs : hornSounds s.alarm = false) : s.pins.horn = false := by
  rw [h.horn, hornLine, hs, Bool.false_and]

/-- A change of the alarm unit and of HORN's level moves LAMP and HORN alone (R161, R164). -/
theorem Settled.annunciator (a : AlarmUnit) (b : Bool) :
    driveLines { s with alarm := a, pins := { s.pins with horn := b } } = { s with
      alarm := { a with sounding := hornSounds a }
      pins := { s.pins with lamp := lampLine a, horn := hornSounds a && (!a.sounding || b) } } :=
  congrArg (fun u : State => { u with
    alarm := { a with sounding := hornSounds a }
    pins := { u.pins with lamp := lampLine a, horn := hornSounds a && (!a.sounding || b) } }) h

/-- A change of the flash moves LAMP alone (R161). -/
theorem Settled.flash (b : Bool) : driveLines (s.onAlarm fun a => { a with flashOn := b }) = { s with
    alarm := { s.alarm with flashOn := b }
    pins := { s.pins with lamp := lampLine { s.alarm with flashOn := b } } } := by
  have hsounds : hornSounds { s.alarm with flashOn := b } = hornSounds s.alarm := rfl
  refine (h.annunciator { s.alarm with flashOn := b } s.pins.horn).trans ?_
  rw [hsounds]
  simp only [h.sounding, horn_level h.horn_silent]

end

/-! ## Orders of the alarm unit -/

/-- Raising a notice changes the notices alone, also where its condition fails. -/
theorem State.raiseIf_eq (s : State) (c : Bool) (n : Notice) :
    s.raiseIf c n = s.withNotices (if c then s.notices ||| n.bit else s.notices) := by
  cases c <;> rfl

section
variable {s t : State} {slot : Slot} {o : Order} (f : AlarmUnit → AlarmUnit) (raised : Bool)

/-- An order that the alarm unit answers at once leaves the unit's change, the notice and the answer; the answer and the notice tell
of the unit as it stood before. -/
theorem leaves_onAlarm {c : Instr} {k : ResultCode} (raises : AlarmUnit → Bool) (value : AlarmUnit → Word) (hs : CardFree s slot)
    (hp : Passes slot o) (hc : exec c s = done (deliver slot o s))
    (hh : ∀ u : State, handOver slot o u = answer slot k (value u.alarm) ((u.onAlarm f).raiseIf (raises u.alarm) .alarm)) :
    ∃ t, exec c s = .next t ∧
      OrderLeaves s t slot o [answerOf slot k (value s.alarm)] ((s.onAlarm f).raiseIf (raises s.alarm) .alarm) := by
  simp only [State.raiseIf_eq] at hh ⊢
  exact leaves_now hs hp hc .orderUnit (hh _) rfl

/-- What a change of the alarm unit with its notice leaves: the unit but for the horn's own record, the notices, and beside the lines
nothing else. -/
structure AlarmChanged (s t : State) (f : AlarmUnit → AlarmUnit) (raised : Bool) : Prop where
  entries : t.alarm.entries = (f s.alarm).entries
  silence : t.alarm.silence = (f s.alarm).silence
  tone : t.alarm.tone = (f s.alarm).tone
  flashOn : t.alarm.flashOn = (f s.alarm).flashOn
  notices : t.notices = if raised then s.notices ||| Notice.alarm.bit else s.notices
  rest : { t with alarm := s.alarm, notices := s.notices, pins := s.pins } = s

theorem alarmChanged_driveLines : AlarmChanged s (driveLines ((s.onAlarm f).raiseIf raised .alarm)) f raised := by
  rw [State.raiseIf_eq]
  exact ⟨rfl, rfl, rfl, rfl, rfl, rfl⟩

/-- The card's traces aside, an order of the alarm unit changes the unit and raises ALARM. -/
theorem OrderLeaves.alarmChanged {new : List Answer} (h : OrderLeaves s t slot o new ((s.onAlarm f).raiseIf raised .alarm)) :
    AlarmChanged s (withoutCard s t) f raised :=
  h.rest ▸ alarmChanged_driveLines f raised

end

/-! ## CLEAR_GUARD_FAULT (R206) -/

theorem takeClearGuardFault_empty {s : State} (h : s.guard.fault = none) (slot : Slot) :
    takeClearGuardFault slot s = answer slot .ok 0 s := by
  simp [takeClearGuardFault, h]

theorem takeClearGuardFault_latched {s : State} {r : FaultRecord} (h : s.guard.fault = some r) (slot : Slot) :
    takeClearGuardFault slot s = answer slot .ok (if r.multiple then 2 else 1)
      (giveCondition .access false (s.onGuard fun g => { g with fault := none })) := by
  simp only [takeClearGuardFault, h]
  rfl

/-- The emptying of a latched record, its condition given as gone, leaves the guard and the alarm unit changed (R206). -/
theorem clearGuardFault_leaves {s : State} {slot : Slot} {r : FaultRecord} (hs : CardFree s slot) (hslot : slot.val < 12)
    (h : s.guard.fault = some r) : ∃ t, exec (.clearGuardFault slot) s = .next t ∧
      OrderLeaves s t slot .clearGuardFault [answerOf slot .ok (if r.multiple then 2 else 1)]
        (giveCondition .access false (s.onGuard fun g => { g with fault := none })) := by
  have hlatched := takeClearGuardFault_latched (s := markTaken slot (orderCode .clearGuardFault) (some .clearGuardFault) s) h slot
  refine leaves_now hs (passes_of hslot rfl) rfl .orderUnit (hlatched.trans ?_) ?_
  all_goals
    simp only [giveCondition, moveEntry, State.raiseIf_eq]
    rfl

/-- Settles O54: an empty record stays; a latched one is emptied, and `giveCondition_given` says how the ACCESS entry answers. -/
theorem clearGuardFaultEmptiesTheRecord : Obligations.ClearGuardFaultEmptiesTheRecord := by
  unfold Obligations.ClearGuardFaultEmptiesTheRecord
  intro s slot hs hslot
  refine ⟨fun hnone => ?empty, fun r hr => ?latched⟩
  case empty =>
    exact leaves_now hs (passes_of hslot rfl) rfl .orderUnit (takeClearGuardFault_empty (s := markTaken slot _ _ s) hnone slot) rfl
  case latched =>
    obtain ⟨t, ht, hanswered, hrest⟩ := clearGuardFault_leaves hs hslot hr
    have hgiven := (giveCondition_given .access false (s.onGuard fun g => { g with fault := none })).driveLines
    rw [← hrest] at hgiven
    have hguard : t.guard = { s.guard with fault := none } := (congrArg State.guard hrest).trans
      (congrArg Surround.guard (giveCondition_surround ..))
    refine ⟨t, ht, hanswered, hguard, { hgiven with }, ?rest⟩
    case rest =>
      rw [hrest]
      exact congrArg (fun u : State => { u with guard := s.guard, pins := s.pins })
        (giveCondition_rest .access false (s.onGuard fun g => { g with fault := none }))

/-! ## SET_ALARM (R159) -/

namespace AlarmEntry

section
variable {e : AlarmEntry}

theorem restart_gone (h : e.condition = false) : e.restart = { e with state := .normal, remaining := 0 } := by
  simp [restart, h]

theorem restart_atOnce (h : e.condition = true) (hh : e.holdoff = 0) :
    e.restart = { e with state := .activeUnacked, remaining := 0 } := by
  simp [restart, appear, h, hh]

theorem restart_holdoff (h : e.condition = true) (hh : e.holdoff ≠ 0) :
    e.restart = { e with state := .holdoff, remaining := e.holdoff } := by
  simp [restart, appear, h, hh]

variable {c : AlarmCard}

theorem setTo_disabled (h : c.enable ≠ 1) : e.setTo c = { e.withSettings c with state := .normal, remaining := 0 } := by
  simp [setTo, withSettings, h]

theorem setTo_restarts (h : restarts e (e.withSettings c) = true) : e.setTo c = (e.withSettings c).restart := by
  have hon : (e.withSettings c).enabled = true := (Bool.and_eq_true_iff.1 h).1
  simp [setTo, h, hon]

theorem setTo_kept (hon : c.enable = 1) (h : restarts e (e.withSettings c) = false) : e.setTo c = e.withSettings c := by
  have henabled : (e.withSettings c).enabled = true := beq_iff_eq.2 hon
  simp [setTo, h, henabled]

/-- SET_ALARM gives an entry the card's settings and, beside them, changes its state and its remaining ticks alone. -/
theorem setTo_eq (e : AlarmEntry) (c : AlarmCard) : ∃ st n, e.setTo c = { e.withSettings c with state := st, remaining := n } := by
  by_cases hon : c.enable = 1
  · by_cases h : restarts e (e.withSettings c) = true
    · obtain ⟨st, n, happear, _⟩ := appear_eq { e.withSettings c with state := .normal, remaining := 0 }
      rw [setTo_restarts h, restart]
      split
      · exact ⟨st, n, happear⟩
      · exact ⟨_, _, rfl⟩
    · exact ⟨_, _, setTo_kept hon (Bool.eq_false_iff.2 h)⟩
  · exact ⟨_, _, setTo_disabled hon⟩

/-- The order restarts an entry that it enables anew or gives another severity (R159). -/
theorem restarts_iff (e : AlarmEntry) (c : AlarmCard) : restarts e (e.withSettings c) = true ↔
    c.enable = 1 ∧ (e.enabled = false ∨ ¬(e.major = true ↔ c.severity = 1)) := by
  cases hm : e.major <;> simp [restarts, withSettings, hm]

/-- The changes that R160 counts: a restart, and the disabling of an entry that is not NORMAL. -/
theorem setChanges_iff (e : AlarmEntry) (c : AlarmCard) : e.setChanges c = true ↔
    restarts e (e.withSettings c) = true ∨ (c.enable ≠ 1 ∧ e.enabled = true ∧ e.state ≠ .normal) := by
  simp [setChanges, withSettings, and_left_comm, and_assoc]

end

/-- The silence flag is cleared by a restart of a MAJOR entry into ACTIVE_UNACKED (R162); a disabled entry is NORMAL. -/
theorem clearsSilence_setTo (e : AlarmEntry) (c : AlarmCard) : clearsSilence (e.setTo c) (e.setChanges c) = true ↔
    restarts e (e.withSettings c) = true ∧ c.severity = 1 ∧ (e.setTo c).state = .activeUnacked := by
  have hmajor : (e.setTo c).major = (c.severity == 1) := by
    obtain ⟨st, n, h⟩ := e.setTo_eq c
    rw [h]
    rfl
  have hoff : c.enable ≠ 1 → (e.setTo c).state ≠ .activeUnacked := fun h => by simp [setTo_disabled h]
  simp only [clearsSilence, Bool.and_eq_true, hmajor, setChanges_iff, beq_iff_eq]
  tauto

end AlarmEntry

/-- The alarm unit after SET_ALARM for a kind (R159, R162). -/
def AlarmUnit.setAlarm (k : AlarmKind) (c : AlarmCard) (a : AlarmUnit) : AlarmUnit :=
  let n := (a.entry k).setTo c
  ({ a.setEntry k n with
    silence := if clearsSilence n ((a.entry k).setChanges c) then false else a.silence } : AlarmUnit).heard

theorem takeSetAlarm_eq (slot : Slot) {k : AlarmKind} {c : AlarmCard} (hk : c.kind = (kindIdx k).val) (s : State) :
    takeSetAlarm slot c s = answer slot .ok (BitVec.ofNat 32 ((s.alarm.entry k).setTo c).state.code)
      ((s.onAlarm (·.setAlarm k c)).raiseIf ((s.alarm.entry k).setChanges c) .alarm) := by
  rw [takeSetAlarm, hk, kindOf_kindIdx]
  rfl

theorem setAlarm_entry_same (k : AlarmKind) (c : AlarmCard) (a : AlarmUnit) :
    (a.setAlarm k c).entry k = (a.entry k).setTo c :=
  entry_setEntry_same a k _

theorem setAlarm_entry_other {j k : AlarmKind} (h : j ≠ k) (c : AlarmCard) (a : AlarmUnit) :
    (a.setAlarm k c).entry j = a.entry j :=
  entry_setEntry_other h a _

/-- Settles O55: the entry's branches by the card's settings, carried to the command by `leaves_onAlarm`. -/
theorem setAlarmRestartsOrKeeps : Obligations.SetAlarmRestartsOrKeeps := by
  unfold Obligations.SetAlarmRestartsOrKeeps
  intro s slot c k hs hp hk old on major again
  obtain ⟨t, ht, hleaves⟩ := leaves_onAlarm (c := .setAlarm slot c) (·.setAlarm k c) (fun a => (a.entry k).setChanges c)
    (fun a => BitVec.ofNat 32 ((a.entry k).setTo c).state.code) hs hp rfl (takeSetAlarm_eq slot hk)
  have hchanged := hleaves.alarmChanged
  have hentries : t.alarm.entries = (s.alarm.setAlarm k c).entries := hchanged.entries
  have hentry : ∀ j, t.alarm.entry j = (s.alarm.setAlarm k c).entry j := fun j => by
    simp only [AlarmUnit.entry, hentries]
  have hnew : t.alarm.entry k = old.setTo c := (hentry k).trans (setAlarm_entry_same k c s.alarm)
  have hagain : restarts old (old.withSettings c) = true ↔ again := AlarmEntry.restarts_iff old c
  have hrestart : again → old.setTo c = (old.withSettings c).restart := fun ha => AlarmEntry.setTo_restarts (hagain.2 ha)
  have hchanges : old.setChanges c = true ↔ again ∨ (¬on ∧ old.enabled = true ∧ old.state ≠ .normal) :=
    (AlarmEntry.setChanges_iff old c).trans (or_congr_left hagain)
  obtain ⟨st, n, hset⟩ := old.setTo_eq c
  refine ⟨t, ht, ?_⟩
  rw [hnew]
  refine ⟨?enabled, ?major, ?holdoff, ?latching, ?condition, fun hoff => ?off, fun ha hcond => ?gone,
    fun ha hcond hzero => ?atOnce, fun ha hcond hpos => ?delayed, fun hon ha => ?kept, hleaves.toCardAnswered, fun j hj => ?others,
    ?silence, ?notices, hchanged.tone, hchanged.flashOn, hchanged.rest⟩
  case enabled => rw [hset]; exact beq_iff_eq
  case major => rw [hset]; exact beq_iff_eq
  case holdoff => rw [hset]; rfl
  case latching => rw [hset]; exact beq_iff_eq
  case condition => rw [hset]; rfl
  case off => rw [AlarmEntry.setTo_disabled hoff]; exact ⟨rfl, rfl⟩
  case gone => rw [hrestart ha, AlarmEntry.restart_gone (e := old.withSettings c) hcond]; exact ⟨rfl, rfl⟩
  case atOnce => rw [hrestart ha, AlarmEntry.restart_atOnce (e := old.withSettings c) hcond hzero]; exact ⟨rfl, rfl⟩
  case delayed => rw [hrestart ha, AlarmEntry.restart_holdoff (e := old.withSettings c) hcond hpos]; exact ⟨rfl, rfl⟩
  case kept => rw [AlarmEntry.setTo_kept hon (Bool.eq_false_iff.2 (hagain.not.2 ha))]; exact ⟨rfl, rfl⟩
  case others => rw [hentry, setAlarm_entry_other (by simpa using hj)]
  case silence =>
    refine hchanged.silence.trans (if_congr ?_ rfl rfl)
    exact (AlarmEntry.clearsSilence_setTo old c).trans (and_congr_left' hagain)
  case notices => exact hchanged.notices.trans (if_congr hchanges rfl rfl)

/-! ## ACK_ALARMS (R158) -/

theorem AlarmEntry.ack_eq (e : AlarmEntry) : e.ack =
    if e.state = .activeUnacked then { e with state := .activeAcked }
    else if e.state = .returnedUnacked then { e with state := .normal } else e := by
  unfold AlarmEntry.ack
  split <;> simp_all

theorem ackAll_entries (a : AlarmUnit) (mask : Nat) (i : Fin 12) :
    (a.ackAll mask).entries[i] = if mask.testBit i.val then a.entries[i].ack else a.entries[i] := by
  simp [AlarmUnit.ackAll]

/-- The count that ACK_ALARMS answers with is that of the named entries which are unacknowledged. -/
theorem ackCount_eq (a : AlarmUnit) (mask : Nat) : a.ackCount mask =
    ((List.finRange 12).filter fun i => mask.testBit i.val && a.entries[i].unacked).length := by
  have hlist : (a.entries.toList.mapIdx fun i e => mask.testBit i && e.unacked) =
      (List.finRange 12).map fun i => mask.testBit i.val && a.entries[i].unacked :=
    List.ext_getElem (by simp) (by simp)
  rw [AlarmUnit.ackCount, hlist, List.count, List.countP_map, List.countP_eq_length_filter]
  simp [Function.comp_def]

theorem takeAckAlarms_eq (slot : Slot) (mask : Nat) (s : State) :
    takeAckAlarms slot mask s = answer slot .ok (BitVec.ofNat 32 (s.alarm.ackCount mask))
      ((s.onAlarm fun a => (a.ackAll mask).heard).raiseIf (decide (0 < s.alarm.ackCount mask)) .alarm) :=
  rfl

/-- Settles O56: one change of the table (`leaves_onAlarm`), its entries and its count read off. -/
theorem ackAlarmsAcknowledgesTogether : Obligations.AckAlarmsAcknowledgesTogether := by
  unfold Obligations.AckAlarmsAcknowledgesTogether
  intro s slot mask hs hp unacked n
  obtain ⟨t, ht, hleaves⟩ := leaves_onAlarm (c := .ackAlarms slot mask) (fun a => (a.ackAll mask).heard)
    (fun a => decide (0 < a.ackCount mask)) (fun a => BitVec.ofNat 32 (a.ackCount mask)) hs hp rfl (takeAckAlarms_eq slot mask)
  have hchanged := hleaves.alarmChanged
  have hentries : t.alarm.entries = (s.alarm.ackAll mask).entries := hchanged.entries
  have hcount : s.alarm.ackCount mask = n := ackCount_eq s.alarm mask
  refine ⟨t, ht, ?answered, fun i => ?entry, ?notices, hchanged.silence, hchanged.tone, hchanged.flashOn, hchanged.rest⟩
  case answered => rw [← hcount]; exact hleaves.toCardAnswered
  case entry =>
    simp only [hentries, ackAll_entries, AlarmEntry.ack_eq]
    by_cases hmask : mask.testBit i.val = true <;> simp [hmask]
  case notices =>
    rw [← hcount]
    exact hchanged.notices.trans (if_congr decide_eq_true_iff rfl rfl)

/-! ## SILENCE_HORN and SET_HORN (R163, R164) -/

/-- SILENCE_HORN is accepted in every slot (R210). -/
theorem passes_silenceHorn (slot : Slot) : Passes slot .silenceHorn := by
  simp [Passes, cardRefusal, orderCode, allowedInB, orderInRange]

/-- Silencing ends the sounding and drops HORN; LAMP follows the entries, which stay (R161, R163). -/
theorem Settled.silenced {s : State} (h : Settled s) :
    driveLines (s.onAlarm fun a => ({ a with silence := true } : AlarmUnit).heard) = { s with
      alarm := { s.alarm with silence := true, sounding := false }
      pins := { s.pins with horn := false } } := by
  have hsilent : hornSounds ({ s.alarm with silence := true } : AlarmUnit).heard = false := hornSounds_silenced rfl
  have hlamp : s.pins.lamp = lampLine ({ s.alarm with silence := true } : AlarmUnit).heard := h.lamp
  refine (h.annunciator ({ s.alarm with silence := true } : AlarmUnit).heard s.pins.horn).trans ?_
  rw [hsilent, ← hlamp]
  rfl

/-- Settles O57: the silence flag is set at once in every slot; the result value is the horn's sounding (`hornSounds_iff`). -/
theorem silenceHornSetsTheFlag : Obligations.SilenceHornSetsTheFlag := by
  unfold Obligations.SilenceHornSetsTheFlag
  intro s slot hs sounding
  have hsounding : hornSounds s.alarm = true ↔ sounding := by simpa only [AlarmEntry.unacked_iff] using hornSounds_iff s.alarm
  obtain ⟨t, ht, hleaves⟩ := leaves_onAlarm (c := .silenceHorn slot) (fun a => ({ a with silence := true } : AlarmUnit).heard)
    (fun _ => false) (fun a => BitVec.ofNat 32 (bit (hornSounds a) 0)) hs (passes_silenceHorn slot) rfl fun _ => rfl
  have hrest := hleaves.rest.trans hs.settled.silenced
  refine ⟨t, _, ht, hleaves.toCardAnswered, fun h => ?_, fun h => ?_, congrArg (·.pins.horn) hrest,
    congrArg (·.alarm.entries) hrest, hrest⟩
  · rw [hsounding.2 h]; rfl
  · rw [Bool.eq_false_iff.2 (hsounding.not.2 h)]; rfl

/-- SET_HORN replaces the tone code and raises HORN while the horn sounds (R164). -/
def withTone (tone : Nat) (s : State) : State :=
  { s with alarm := { s.alarm with tone := tone }, pins := { s.pins with horn := hornSounds s.alarm || s.pins.horn } }

theorem takeSetHorn_eq (slot : Slot) (tone : Nat) (s : State) : takeSetHorn slot tone s = answer slot .ok 0 (withTone tone s) := by
  refine congrArg (answer slot .ok 0) ?_
  cases h : hornSounds s.alarm
  · rw [withTone, h]; exact if_neg (Bool.eq_false_iff.1 h)
  · rw [withTone, h]; exact if_pos h

/-- Neither LAMP nor the horn's sounding looks at the tone, and HORN takes any level while the horn sounds (R161, R164). -/
theorem Settled.wave {s : State} (h : Settled s) (tone : Nat) {b : Bool} (hb : hornSounds s.alarm = false → b = false) :
    driveLines { s with alarm := { s.alarm with tone := tone }, pins := { s.pins with horn := b } } =
      { s with alarm := { s.alarm with tone := tone }, pins := { s.pins with horn := b } } := by
  have hsounds : hornSounds { s.alarm with tone := tone } = hornSounds s.alarm := rfl
  have hlamp : lampLine { s.alarm with tone := tone } = s.pins.lamp := h.lamp.symm
  rw [h.annunciator, hsounds, hlamp]
  simp only [h.sounding, horn_level hb]

theorem setHorn_leaves {s : State} {slot : Slot} {tone : Nat} (hs : CardFree s slot) (hp : Passes slot (.setHorn tone)) :
    ∃ t, exec (.setHorn slot tone) s = .next t ∧ CardAnswered s t slot (.setHorn tone) [answerOf slot .ok 0] ∧
      withoutCard s t = withTone tone s := by
  obtain ⟨t, ht, hanswered, hrest⟩ : ∃ t, exec (.setHorn slot tone) s = .next t ∧
      OrderLeaves s t slot (.setHorn tone) [answerOf slot .ok 0] (withTone tone s) :=
    leaves_now hs hp rfl .orderUnit (takeSetHorn_eq slot tone _) rfl
  refine ⟨t, ht, hanswered, hrest.trans (hs.settled.wave tone fun h => ?_)⟩
  rw [h, hs.settled.horn_silent h, Bool.or_self]

/-! ## The waves (R161, R164) -/

/-- A command that acts only while READY is 1 has its effect, and the lines follow. -/
theorem done_whenRunning {s : State} (hrun : s.phase = .running) (f : State → State) :
    done (whenRunning s f) = .next (driveLines (f s)) :=
  congrArg done (whenRunning_of hrun f)

section
variable {s : State} (h : Settled s) (hrun : s.phase = .running)
include h hrun

theorem exec_hornHalfPeriod_sounding (hs : hornSounds s.alarm = true) :
    exec .hornHalfPeriod s = .next { s with pins := { s.pins with horn := !s.pins.horn } } := by
  refine (done_whenRunning hrun _).trans ?_
  rw [if_pos (h.sounding.trans hs)]
  exact congrArg _ (h.wave s.alarm.tone (b := !s.pins.horn) fun hn => Bool.noConfusion (hs.symm.trans hn))

theorem exec_hornHalfPeriod_silent (hs : hornSounds s.alarm = false) : exec .hornHalfPeriod s = .next s := by
  refine (done_whenRunning hrun _).trans ?_
  rw [if_neg (Bool.eq_false_iff.1 (h.sounding.trans hs)), h]

theorem exec_flashHalf : exec .flashHalf s = .next { s with
    alarm := { s.alarm with flashOn := !s.alarm.flashOn }
    pins := { s.pins with lamp := lampLine { s.alarm with flashOn := !s.alarm.flashOn } } } :=
  (done_whenRunning hrun _).trans (congrArg _ (h.flash (!s.alarm.flashOn)))

end

/-- Settles O58: SET_HORN and the half periods by whether the horn sounds (`hornSounds_iff`), the flash by the LAMP pattern. -/
theorem hornAndFlashWaves : Obligations.HornAndFlashWaves := by
  unfold Obligations.HornAndFlashWaves
  intro s slot tone hs sounding
  have hset := hs.settled
  have hrun := hs.running
  have hsounds : sounding → hornSounds s.alarm = true := (hornSounds_iff s.alarm).2
  have hsilent : ¬sounding → hornSounds s.alarm = false := fun h => Bool.eq_false_iff.2 ((hornSounds_iff s.alarm).not.2 h)
  refine ⟨fun hp => ?setHorn, fun h => exec_hornHalfPeriod_sounding hset hrun (hsounds h),
    fun h => exec_hornHalfPeriod_silent hset hrun (hsilent h), fun hun => ?flashing, fun hacked => ?still⟩
  case setHorn =>
    obtain ⟨t, ht, hanswered, hrest⟩ := setHorn_leaves hs hp
    refine ⟨t, ht, hanswered, fun h => ?_, fun h => ?_⟩
    · rw [hrest, withTone, hsounds h, Bool.true_or]
    · rw [hrest, withTone, hsilent h, Bool.false_or]
  case flashing =>
    rw [exec_flashHalf hset hrun, lampLine_flashing (a := { s.alarm with flashOn := !s.alarm.flashOn }) hun]
  case still => rw [exec_flashHalf hset hrun, lampLine_still hacked, ← hset.lamp]

/-! ## The end of a holdoff (R157) -/

theorem exec_holdoffEnd {s : State} (hrun : s.phase = .running) (k : AlarmKind) :
    exec (.holdoffEnd k) s = .next (driveLines (endHoldoff k s)) :=
  done_whenRunning hrun _

theorem holdoffOver_iff (e : AlarmEntry) : holdoffOver e = true ↔ e.state = .holdoff ∧ e.remaining = 0 := by
  simp [holdoffOver]

/-- A change of an entry changes the alarm unit and the notices alone. -/
theorem moveEntry_rest (k : AlarmKind) (e : AlarmEntry) (s : State) :
    { moveEntry k e s with alarm := s.alarm, notices := s.notices } = s := by
  simp only [moveEntry, State.raiseIf_eq]
  rfl

/-- Settles O59: a holdoff that has run out is a change of its entry (`moveEntry`); one still running changes nothing. -/
theorem holdoffEndActivates : Obligations.HoldoffEndActivates := by
  unfold Obligations.HoldoffEndActivates
  intro s k hset hrun e
  rw [exec_holdoffEnd hrun]
  refine ⟨fun hrunning => ?stays, fun hstate hremaining => ⟨_, rfl, ?_⟩⟩
  case stays => rw [endHoldoff, if_neg ((holdoffOver_iff e).not.2 hrunning), hset]
  rw [endHoldoff, if_pos ((holdoffOver_iff e).2 ⟨hstate, hremaining⟩)]
  have hold : (s.alarm.entry k).state ≠ .activeUnacked := fun h => by cases hstate.symm.trans h
  refine ⟨moveEntry_entry_same .., fun j hj => moveEntry_entry_other k _ s (by simpa using hj), ?silence, ?notices, ?rest⟩
  case silence => exact (moveEntry_silence ..).trans (if_congr (by simp [hold, e]) rfl rfl)
  case notices => exact (moveEntry_notices ..).trans (if_neg hold.symm)
  case rest => exact congrArg (fun u : State => { u with pins := s.pins }) (moveEntry_rest ..)

end Sys2Proof.Machine
end

section
/-! PROOFS. Chapters 08 and 11, the start-up clear: its words, its end with the flash's first half, and the ports while it runs (O9). -/

namespace Sys2Proof.Machine

open Sys2Proof

/-! ## The clear word by word (R192) -/

section
variable {s : State} (h : Settled s)
include h

theorem exec_startUpClear_held (hheld : s.phase = .held) : exec .startUpClear s = .next { s with phase := .clearing 0 } := by
  have hbegin : beginClear s = { s with phase := .clearing 0 } := by simp only [beginClear, hheld]
  change done (beginClear s) = _
  rw [hbegin]
  exact congrArg _ (h.update (fun u => { u with phase := .clearing 0 }) rfl)

theorem exec_startUpClear_begun (hbegun : s.phase ≠ .held) : exec .startUpClear s = .next s := by
  have hbegin : beginClear s = s := by
    unfold beginClear
    split
    · next hheld => exact absurd hheld hbegun
    · rfl
  change done (beginClear s) = _
  rw [hbegin]
  exact congrArg _ h

/-- No line looks at memory or the phase: a grant while the clear runs makes the clear's access and nothing else. -/
theorem exec_arbiterGrant_clearing {n : WordIdx} (hn : s.phase = .clearing n) : exec .arbiterGrant s = .next (clearAccess n s) := by
  have harbitrate : arbitrate s = clearAccess n s := by simp only [arbitrate, hn]
  change done (arbitrate s) = _
  rw [harbitrate]
  exact congrArg _ (h.update (clearAccess n) rfl)

/-- Every byte 0, READY 1 and the flash in an on half, which LAMP follows. -/
theorem exec_startUpClearEnd_clearing {n : WordIdx} (hn : s.phase = .clearing n) : exec .startUpClearEnd s = .next { s with
    mem := []
    phase := .running
    alarm := { s.alarm with flashOn := true }
    pins := { s.pins with lamp := lampLine { s.alarm with flashOn := true } } } := by
  have hend : endClear s = { s with mem := [], phase := .running, alarm := { s.alarm with flashOn := true } } := by
    simp only [endClear, hn]
  change done (endClear s) = _
  rw [hend]
  exact congrArg (fun u : State => Host.Outcome.next { u with mem := [], phase := .running }) (h.flash true)

theorem exec_startUpClearEnd_idle (hn : ∀ n, s.phase ≠ .clearing n) : exec .startUpClearEnd s = .next s := by
  have hend : endClear s = s := by
    unfold endClear
    split
    · next n hclearing => exact absurd hclearing (hn n)
    · rfl
  change done (endClear s) = _
  rw [hend]
  exact congrArg _ h

end

/-- The access after word `n` is of the next word, but for the last (log 22). -/
theorem clearAccess_next {n : WordIdx} (h : n.toNat < 16383) (s : State) : (clearAccess n s).phase = .clearing (n + 1) := by
  have hlast : n ≠ 16383 := fun he => by simp [he] at h
  exact congrArg Phase.clearing (if_neg hlast)

/-- IDENT's high half with READY 1 (R198). -/
theorem readRegister_ident_running {s : State} (hrun : s.phase = .running) : readRegister s .ident true = 0x8001 := by
  simp [readRegister, hrun, bit, Config.revision]

/-! ## Port A and the registers while the clear runs (R192) -/

section
variable {s : State} {n : WordIdx} (hn : s.phase = .clearing n)
include hn

theorem whenRunning_clearing (f : State → State) : whenRunning s f = s := by simp [whenRunning, hn]

theorem portPhase_clearing (f g : State → State) : portPhase s f g = f s := by simp [portPhase, hn]

/-! ## Port B while the clear runs (R192, R197) -/

theorem fetchWord_clearing (addr : Half) : fetchWord addr s = (s, 0) := by simp [fetchWord, hn]

theorem depositWord_clearing (addr : Half) (w : Word) : depositWord addr w s = s := by simp [depositWord, hn]

end

/-- The transfer has no bit of a word to shift out: a READ holds the word 0, the other kinds shift zeros. -/
def Transfer.Blank (t : Transfer) : Prop := t.kind = .read → t.word = 0

theorem wordByte_zero (pos : Nat) : wordByte 0 pos = 0 := by simp [wordByte]

theorem Transfer.Blank.addrByte {t : Transfer} (h : t.Blank) (x : Byte) : (t.addrByte x).Blank := by
  unfold Transfer.addrByte
  split <;> exact h

theorem Transfer.Blank.advance {t : Transfer} (h : t.Blank) : t.advance.Blank := by
  unfold Transfer.advance
  split <;> exact h

/-- Each byte of a blank transfer shifts 0 out and changes port B alone. -/
theorem transferByte_clearing {s : State} {n : WordIdx} {t : Transfer} (hn : s.phase = .clearing n) (ht : s.portB.transfer = some t)
    (hblank : t.Blank) (x : Byte) : ∃ u : Transfer, u.Blank ∧ transferByte s x = shiftByte u 0 s := by
  simp only [transferByte, ht]
  split
  · exact ⟨_, hblank.addrByte x, rfl⟩
  cases hkind : t.kind with
  | read =>
    have hword : t.word = 0 := hblank hkind
    simp only [readByte, fetchWord_clearing hn, hword, wordByte_zero]
    split
    · exact ⟨_, fun _ => rfl, rfl⟩
    · exact ⟨_, hblank.advance, rfl⟩
  | write =>
    have hwrite (w : Word) : Transfer.Blank { t with word := w } := fun hread => by cases hkind.symm.trans hread
    simp only [writeByte, depositWord_clearing hn]
    split
    · exact ⟨_, (hwrite _).advance, rfl⟩
    · exact ⟨_, (hwrite _).advance, rfl⟩
  | other => exact ⟨_, hblank, rfl⟩

/-- Bytes shifted while the clear runs, from a state with a blank transfer: as many zeros leave as bytes come, port B alone changes. -/
theorem transferBytes_clearing (bytes : List Byte) {s : State} {n : WordIdx} {t : Transfer} (hn : s.phase = .clearing n)
    (ht : s.portB.transfer = some t) (hblank : t.Blank) :
    ∃ b, bytes.foldl transferByte s = { s with portB := b } ∧ b.out = s.portB.out ++ List.replicate bytes.length 0 := by
  induction bytes generalizing s t with
  | nil => exact ⟨s.portB, rfl, (List.append_nil _).symm⟩
  | cons x xs ih =>
    obtain ⟨u, hu, hx⟩ := transferByte_clearing hn ht hblank x
    obtain ⟨b, hb, hout⟩ := ih (s := shiftByte u 0 s) hn rfl hu
    refine ⟨b, ?_, ?_⟩
    · rw [List.foldl_cons, hx, hb]; rfl
    · rw [hout]; simp [shiftByte, List.replicate_succ]

/-- A port B command that begins its transfer while the clear runs shifts a 0 out for the command byte and for each byte after it. -/
theorem portBBytes_clearing {s : State} {n : WordIdx} (h : Settled s) (hn : s.phase = .clearing n) (hidle : s.portB.transfer = none)
    (k : TransferKind) (bytes : List Byte) : ∃ t, done (portBBytes k bytes s) = .next t ∧
      t.portB.out = List.replicate (bytes.length + 1) 0 ∧ { t with portB := s.portB } = s := by
  have hbegin : portBBytes k bytes s = bytes.foldl transferByte (beginTransfer k s) := by
    simp [portBBytes, hn, continues, hidle]
  obtain ⟨b, hb, hout⟩ := transferBytes_clearing bytes (s := beginTransfer k s) hn rfl (fun _ => rfl)
  have hlines : driveLines { s with portB := b } = { s with portB := b } := h.update (fun u => { u with portB := b }) rfl
  refine ⟨{ s with portB := b }, ?_, ?_, rfl⟩
  · rw [hbegin, hb]
    exact congrArg _ hlines
  · rw [hout, List.replicate_succ]; rfl

/-! ## The whole of the start-up -/

/-- Settles O9: the clear's commands by the phase, then the ports and the register writes while it runs. -/
theorem startUpClearAndThePortsDuringIt : Obligations.StartUpClearAndThePortsDuringIt := by
  unfold Obligations.StartUpClearAndThePortsDuringIt
  refine ⟨fun s hset hwf => ⟨exec_startUpClear_held hset, exec_startUpClear_begun hset, fun n hn => ?word, fun n hn => ?ends,
    exec_startUpClearEnd_idle hset⟩, fun s n a d v high bytes hset hn => ?ports⟩
  case word =>
    refine ⟨clearAccess n s, exec_arbiterGrant_clearing hset hn, Memory.readWord_writeWord n 0 hwf, fun a ha => ?_,
      fun hlt => clearAccess_next hlt s, rfl⟩
    exact Memory.read_writeWord_other 0 hwf (by unfold inWord at ha; omega)
  case ends => exact ⟨_, exec_startUpClearEnd_clearing hset hn, rfl, Memory.read_nil, rfl, readRegister_ident_running rfl, rfl, rfl, rfl⟩
  case ports =>
    have hdropped (f : State → State) : done (whenRunning s f) = .next s := by
      rw [whenRunning_clearing hn]
      exact congrArg _ hset
    have hwrite (f : State → State) : done (portPhase s id f) = .next s := by
      rw [portPhase_clearing hn]
      exact congrArg _ hset
    have hread (f : State → State) :
        done (portPhase s (returnHalf 0) f) = .next { s with portA := { s.portA with data := 0 } } := by
      rw [portPhase_clearing hn]
      exact congrArg _ (hset.update (returnHalf 0) rfl)
    refine ⟨hwrite _, hwrite _, hread _, hread _, hdropped _, hdropped _, hdropped _, hdropped _, fun hidle c hc => ?portB⟩
    case portB =>
      obtain rfl | rfl := hc
      · exact portBBytes_clearing hset hn hidle .read bytes
      · exact portBBytes_clearing hset hn hidle .write bytes

end Sys2Proof.Machine
end

section
/-! PROOFS. Chapter 09, frames sent to the outside: what the copy holds, the bits of a frame, the lines, and the order of the frames of a
cycle (O60). -/

namespace Sys2Proof.Machine

open Sys2Proof

/-! ## The copy (R171, R172) -/

/-- A bin lies outside the edges when an edges record stands and the index is below tend or above drive. -/
theorem offEdges_iff (edges : Option EdgesRecord) (i : Nat) :
    offEdges edges i = true ↔ ∃ o, edges = some o ∧ (i < o.tend ∨ o.drive < i) := by
  cases edges <;> simp [offEdges]

/-- A bin of a block is the table's entry of the same index. -/
theorem exportBlock_bin {p : ProfileEngine} {q : Profile} {i : Nat} {e : FilterEntry} (h : (p.table.get q)[i]? = some e) :
    (exportBlock p q).bins[i]? = some ⟨e.f, e.lastUpdate, e.stale p.settings.staleScans, offEdges p.edges i⟩ := by
  simp [exportBlock, h]

theorem exportCopy_profiles (f : FrameRecord) (selected : Per4 Bool) (s : State) :
    (exportCopy f selected s).blocks.map (fun x => x.profile) = allProfiles.filter fun q => selected.get q :=
  List.map_map.trans (List.map_id _)

/-- Every block of the copy is that of a profile. -/
theorem exportBlock_of_mem_exportCopy {f : FrameRecord} {selected : Per4 Bool} {s : State} {x : ExportBlock}
    (h : x ∈ (exportCopy f selected s).blocks) : ∃ q, exportBlock s.prof q = x := by
  obtain ⟨q, -, hx⟩ := List.mem_map.1 h
  exact ⟨q, hx⟩

/-! ## The bits of a frame (R174 to R176) -/

theorem saturate16_eq_max_min (v : Int) : saturate16 v = max (-32768) (min 32767 v) := by
  unfold saturate16
  split
  · omega
  · split <;> omega

theorem blockFrame_header (cycle : Half) (c : ExportCopy) (b : ExportBlock) :
    blockFrame cycle c b 0 = headerFrame cycle c b.profile := rfl

theorem blockFrame_md (cycle : Half) (c : ExportCopy) (b : ExportBlock) : blockFrame cycle c b 1 = mdFrame b := rfl

/-- From the third frame on a block's frames are those of its bins in rising index. -/
theorem blockFrame_bin {b : ExportBlock} {n : Nat} {x : ExportBin} (hn : 2 ≤ n) (hx : b.bins[n - 2]? = some x) (cycle : Half)
    (c : ExportCopy) : blockFrame cycle c b n = binFrame b.profile (n - 2) x := by
  have h0 : n ≠ 0 := by omega
  have h1 : n ≠ 1 := by omega
  simp [blockFrame, h0, h1, hx]

/-! ## The lines (R168) -/

theorem exportLines_sending {s : State} {x : Sending} {w : BitVec 48} (hx : s.exp.sending = some x) (hw : x.wire = some w)
    (i : Fin 48) (half : Bool) : exportLines s i half = (half, w.getLsbD (47 - i.val)) := by
  simp [exportLines, exportWire, hx, hw, BitVec.getMsbD_eq_getLsbD]

theorem exportLines_low {s : State} (h : s.exp.sending = none ∨ ∃ x, s.exp.sending = some x ∧ x.wire = none) (i : Fin 48)
    (half : Bool) : exportLines s i half = (false, false) := by
  rcases h with h | ⟨x, hx, hw⟩
  · simp [exportLines, h]
  · simp [exportLines, hx, hw]

/-- Of the driven lines XFRM alone reads the link that sends the frames. -/
theorem Settled.onExp {s : State} (h : Settled s) (f : ExportLink → ExportLink) :
    driveLines (s.onExp f) = { s with exp := f s.exp, pins := { s.pins with xfrm := xfrmLine (s.onExp f) } } :=
  congrArg (fun u : State => { u with exp := f s.exp, pins := { u.pins with xfrm := xfrmLine (s.onExp f) } }) h

/-! ## A cycle start (R170) -/

/-- The settings in force once a cycle start has taken the pending ones. -/
def settingsAtStart (e : ExportLink) : ExportSettings :=
  match e.next with
  | none => e.settings
  | some v => v

theorem takeNextExport_eq (e : ExportLink) : takeNextExport e = { e with settings := settingsAtStart e, next := none } := by
  obtain ⟨settings, next, cycle, sending⟩ := e
  cases next <;> rfl

/-- The link after a cycle start: the first frame of a new copy is due where the link is enabled and a frame record is active. -/
def startedLink (s : State) : ExportLink :=
  let e := settingsAtStart s.exp
  match s.car.frame, e.enable with
  | some f, true => ⟨e, none, s.exp.cycle + 1, some ⟨some (exportCopy f e.profiles s), 0, 0, none⟩⟩
  | _, _ => ⟨e, none, s.exp.cycle, none⟩

theorem cycleStart_eq (s : State) : cycleStart s = s.onExp fun _ => startedLink s := by
  simp only [cycleStart, startedLink, State.onExp, takeNextExport_eq]
  cases s.car.frame <;> cases (settingsAtStart s.exp).enable <;> rfl

/-- No frame is in progress right after a cycle start. -/
theorem xfrmLine_startedLink (s : State) : xfrmLine (s.onExp fun _ => startedLink s) = false := by
  simp only [xfrmLine, State.onExp_exp, startedLink]
  cases s.car.frame <;> cases (settingsAtStart s.exp).enable <;> rfl

theorem Settled.cycleStart {s : State} (h : Settled s) :
    driveLines (cycleStart s) = { s with exp := startedLink s, pins := { s.pins with xfrm := false } } := by
  rw [cycleStart_eq, h.onExp, xfrmLine_startedLink]

/-! ## The frames of a cycle in their order (R174, R179) -/

section
variable {s : State} {c : ExportCopy} {blk n : Nat} {b : ExportBlock} {w : BitVec 48} (h : Settled s) (hrun : s.phase = .running)
include h hrun

theorem exec_exportFrameStart_due (hsend : s.exp.sending = some ⟨some c, blk, n, none⟩) (hb : c.blocks[blk]? = some b) :
    exec .exportFrameStart s = .next { s with
      exp := { s.exp with sending := some ⟨some c, blk, n, some (blockFrame s.exp.cycle c b n)⟩ }
      pins := { s.pins with xfrm := true } } := by
  refine (done_whenRunning hrun _).trans ?_
  simp only [frameStart, hsend, hb]
  exact congrArg _ (h.onExp _)

theorem exec_exportFrameStart_none_due
    (hsend : s.exp.sending = none ∨ ∃ x w, s.exp.sending = some x ∧ x.wire = some w) : exec .exportFrameStart s = .next s := by
  refine (done_whenRunning hrun _).trans ?_
  rcases hsend with hnone | ⟨⟨copy, blk, n, wire⟩, w, hsend, rfl⟩
  · simp only [frameStart, hnone]
    exact congrArg _ h
  · simp only [frameStart, hsend]
    exact congrArg _ h

theorem exec_exportFrameEnd_nextFrame (hsend : s.exp.sending = some ⟨some c, blk, n, some w⟩) (hn : n + 1 < c.nbins + 2) :
    exec .exportFrameEnd s = .next { s with
      exp := { s.exp with sending := some ⟨some c, blk, n + 1, none⟩ }, pins := { s.pins with xfrm := false } } := by
  refine (done_whenRunning hrun _).trans ?_
  simp only [frameEnd, hsend, if_pos hn]
  exact congrArg _ (h.onExp _)

theorem exec_exportFrameEnd_nextBlock (hsend : s.exp.sending = some ⟨some c, blk, n, some w⟩) (hn : ¬n + 1 < c.nbins + 2)
    (hblk : blk + 1 < c.blocks.length) : exec .exportFrameEnd s = .next { s with
      exp := { s.exp with sending := some ⟨some c, blk + 1, 0, none⟩ }, pins := { s.pins with xfrm := false } } := by
  refine (done_whenRunning hrun _).trans ?_
  simp only [frameEnd, hsend, if_neg hn, if_pos hblk]
  exact congrArg _ (h.onExp _)

/-- The last frame of the last block ends the cycle, which is a cycle start. -/
theorem exec_exportFrameEnd_last (hsend : s.exp.sending = some ⟨some c, blk, n, some w⟩) (hn : ¬n + 1 < c.nbins + 2)
    (hblk : ¬blk + 1 < c.blocks.length) :
    exec .exportFrameEnd s = .next { s with exp := startedLink s, pins := { s.pins with xfrm := false } } := by
  refine (done_whenRunning hrun _).trans ?_
  simp only [frameEnd, hsend, if_neg hn, if_neg hblk]
  exact congrArg _ h.cycleStart

/-- A cycle that a soft reset has cut ends with the frame in progress. -/
theorem exec_exportFrameEnd_cut (hsend : s.exp.sending = some ⟨none, blk, n, some w⟩) :
    exec .exportFrameEnd s = .next { s with exp := startedLink s, pins := { s.pins with xfrm := false } } := by
  refine (done_whenRunning hrun _).trans ?_
  simp only [frameEnd, hsend]
  exact congrArg _ h.cycleStart

theorem exec_exportFrameEnd_none_sent
    (hsend : s.exp.sending = none ∨ ∃ x, s.exp.sending = some x ∧ x.wire = none) : exec .exportFrameEnd s = .next s := by
  refine (done_whenRunning hrun _).trans ?_
  rcases hsend with hnone | ⟨⟨copy, blk, n, wire⟩, hsend, rfl⟩
  · simp only [frameEnd, hnone]
    exact congrArg _ h
  · simp only [frameEnd, hsend]
    exact congrArg _ h

end

/-- Settles O60: the frames in their order and their bits, the lines while a frame is sent and otherwise, and the copy bin by bin. -/
theorem exportSendsItsFrames : Obligations.ExportSendsItsFrames := by
  unfold Obligations.ExportSendsItsFrames
  refine ⟨?frames, fun s i half => ⟨fun x v hx hv => exportLines_sending hx hv i half, fun h => exportLines_low h i half⟩, ?copy⟩
  case frames =>
    intro s c blk n b w hset hrun hb id sheet e starts sends
    have hsheet : sheet = BitVec.ofNat 2 c.sheet.code := by
      dsimp only [sheet]
      cases c.sheet <;> rfl
    refine ⟨fun hsend => ⟨_, exec_exportFrameStart_due hset hrun hsend hb, ?header, ?md, ?bin⟩,
      exec_exportFrameStart_none_due hset hrun, exec_exportFrameEnd_nextFrame hset hrun,
      fun hsend hn hblk => exec_exportFrameEnd_nextBlock hset hrun hsend (by omega) hblk,
      fun hsend hn hblk => exec_exportFrameEnd_last hset hrun hsend (by omega) (by omega),
      fun hsend => exec_exportFrameEnd_cut hset hrun hsend, exec_exportFrameEnd_none_sent hset hrun⟩
    case header =>
      rintro rfl
      rw [blockFrame_header, hsheet]
      rfl
    case md =>
      rintro rfl
      exact blockFrame_md _ c b
    case bin =>
      intro x hn hx
      rw [blockFrame_bin hn hx, ← saturate16_eq_max_min]
      rfl
  case copy =>
    intro s f selected c
    refine ⟨rfl, rfl, rfl, exportCopy_profiles f selected s, fun x hx => ?_⟩
    obtain ⟨q, rfl⟩ := exportBlock_of_mem_exportCopy hx
    refine ⟨rfl, List.length_mapIdx, fun i e he => ⟨_, exportBlock_bin he, rfl, rfl, ?stale, offEdges_iff s.prof.edges i⟩⟩
    case stale => exact decide_eq_true_iff

end Sys2Proof.Machine
end

section
/-! PROOFS. Chapters 10 to 12, the writers at a soft reset: the answers of the cards in flight and the page word in progress (O10). -/

namespace Sys2Proof.Machine

open Sys2Proof

/-! ## Where the words stand (R181; 11, the card table) -/

theorem toNat_cardWord (slot : Slot) {n : Nat} (hn : n < 16) : (cardWord slot n).toNat = 64 + 16 * slot.val + n := by
  have hslot := slot.isLt
  simp only [cardWord, Config.cardBase, Config.cardWords, BitVec.toNat_ofNat]
  omega

theorem toNat_pageWordIdx (page1 : Bool) {n : Nat} (hn : n ≤ 2431) :
    (pageWordIdx page1 n).toNat = (if page1 then 3456 else 1024) + n := by
  simp only [pageWordIdx, Config.pageBase, BitVec.toNat_ofNat]
  split <;> omega

/-- No two words of the card table coincide. -/
theorem cardWord_inj {slot slot' : Slot} {n m : Nat} (hn : n < 16) (hm : m < 16) (h : cardWord slot n = cardWord slot' m) :
    slot = slot' ∧ n = m := by
  have ht := congrArg BitVec.toNat h
  rw [toNat_cardWord slot hn, toNat_cardWord slot' hm] at ht
  exact ⟨Fin.ext (by omega), by omega⟩

/-- The card table lies before both pages. -/
theorem cardWord_ne_pageWordIdx (slot : Slot) (page1 : Bool) {n m : Nat} (hn : n < 16) (hm : m ≤ 2431) :
    cardWord slot n ≠ pageWordIdx page1 m := fun h => by
  have ht := congrArg BitVec.toNat h
  rw [toNat_cardWord slot hn, toNat_pageWordIdx page1 hm] at ht
  have hslot := slot.isLt
  split at ht <;> omega

theorem Memory.read_writeWord_outside {m : Memory} {w : WordIdx} {b : Nat} (v : Word) (h : m.wf = true) (hb : ¬inWord w b) :
    (m.writeWord w v).read b = m.read b :=
  Memory.read_writeWord_other v h (by unfold inWord at hb; omega)

/-! ## Answers in memory (R211) -/

/-- A card holds an answer: result code, result value and state word. -/
structure AnswerWritten (m : Memory) (a : Answer) : Prop where
  code : m.readWord (cardWord a.slot 14) = BitVec.ofNat 32 a.code
  value : m.readWord (cardWord a.slot 15) = a.value
  state : m.readWord (cardWord a.slot 0) = a.stateWord

/-- A word stored outside the card leaves its answer. -/
theorem AnswerWritten.writeWord {m : Memory} {a : Answer} (h : AnswerWritten m a) (hm : m.wf = true) {w : WordIdx} (v : Word)
    (hw : ∀ n < 16, cardWord a.slot n ≠ w) : AnswerWritten (m.writeWord w v) a where
  code := (Memory.readWord_writeWord_other v hm (hw 14 (by decide))).trans h.code
  value := (Memory.readWord_writeWord_other v hm (hw 15 (by decide))).trans h.value
  state := (Memory.readWord_writeWord_other v hm (hw 0 (by decide))).trans h.state

theorem writeWhole_mem (a : Answer) (s : State) : (writeWhole a s).mem =
    ((s.mem.writeWord (cardWord a.slot 14) (BitVec.ofNat 32 a.code)).writeWord (cardWord a.slot 15) a.value).writeWord
      (cardWord a.slot 0) a.stateWord := rfl

section
variable {s : State} (h : s.MemOk)
include h

theorem answerWritten_writeWhole (a : Answer) : AnswerWritten (writeWhole a s).mem a := by
  have h14 := Memory.writeWord_wf (cardWord a.slot 14) (BitVec.ofNat 32 a.code) h
  have h15 := Memory.writeWord_wf (cardWord a.slot 15) a.value h14
  have hne {n m : Nat} (hn : n < 16) (hm : m < 16) (hnm : n ≠ m) : cardWord a.slot n ≠ cardWord a.slot m := fun he =>
    hnm (cardWord_inj hn hm he).2
  rw [writeWhole_mem]
  refine ⟨?code, ?value, Memory.readWord_writeWord _ _ h15⟩
  case code =>
    rw [Memory.readWord_writeWord_other _ h15 (hne (by decide) (by decide) (by decide)),
      Memory.readWord_writeWord_other _ h14 (hne (by decide) (by decide) (by decide)), Memory.readWord_writeWord _ _ h]
  case value =>
    rw [Memory.readWord_writeWord_other _ h15 (hne (by decide) (by decide) (by decide)), Memory.readWord_writeWord _ _ h14]

/-- The answer of another slot's card stays. -/
theorem AnswerWritten.writeWhole {a b : Answer} (ha : AnswerWritten s.mem a) (hab : a.slot ≠ b.slot) :
    AnswerWritten (writeWhole b s).mem a := by
  have hne {m : Nat} (hm : m < 16) : ∀ n < 16, cardWord a.slot n ≠ cardWord b.slot m := fun n hn he =>
    hab (cardWord_inj hn hm he).1
  have h14 := Memory.writeWord_wf (cardWord b.slot 14) (BitVec.ofNat 32 b.code) h
  have h15 := Memory.writeWord_wf (cardWord b.slot 15) b.value h14
  exact ((ha.writeWord h _ (hne (by decide))).writeWord h14 _ (hne (by decide))).writeWord h15 _ (hne (by decide))

/-- Bytes outside the three words of an answer stay. -/
theorem writeWhole_read (a : Answer) {b : Nat} (hb : ∀ n, n = 0 ∨ n = 14 ∨ n = 15 → ¬inWord (cardWord a.slot n) b) :
    (writeWhole a s).mem.read b = s.mem.read b := by
  have h14 := Memory.writeWord_wf (cardWord a.slot 14) (BitVec.ofNat 32 a.code) h
  have h15 := Memory.writeWord_wf (cardWord a.slot 15) a.value h14
  rw [writeWhole_mem, Memory.read_writeWord_outside _ h15 (hb 0 (by decide)),
    Memory.read_writeWord_outside _ h14 (hb 15 (by decide)), Memory.read_writeWord_outside _ h (hb 14 (by decide))]

end

/-! ## The answers of a soft reset (R213) -/

theorem softAnswerOf_decided {answers : List Answer} {slot : Slot} {a : Answer}
    (h : (answers.find? fun b => b.slot == slot && b.atOnce) = some a) : softAnswerOf answers slot = a := by
  simp [softAnswerOf, h]

/-- A card without an answer given at once is answered DONE/ABANDONED with value 0. -/
theorem softAnswerOf_abandoned {answers : List Answer} {slot : Slot} (h : ∀ a ∈ answers, a.slot = slot → a.atOnce = false) :
    softAnswerOf answers slot = ⟨slot, true, ResultCode.abandoned.value, 0, false⟩ := by
  have hnone : (answers.find? fun b => b.slot == slot && b.atOnce) = none := by simpa using h
  simp [softAnswerOf, hnone]

theorem softAnswerOf_slot (answers : List Answer) (slot : Slot) : (softAnswerOf answers slot).slot = slot := by
  cases h : answers.find? fun b => b.slot == slot && b.atOnce with
  | none => simp [softAnswerOf, h]
  | some a =>
    have ha := List.find?_some h
    simp only [Bool.and_eq_true, beq_iff_eq] at ha
    rw [softAnswerOf_decided h, ha.1]

section
variable (cs : List InFlight) (s : State)

theorem softAnswers_ord : (cs.foldl softAnswer s).ord = s.ord :=
  softAnswers_inv (p := fun t => t.ord = s.ord) (fun _ _ ht => ht) cs s rfl

theorem softAnswers_prof : (cs.foldl softAnswer s).prof = s.prof :=
  softAnswers_inv (p := fun t => t.prof = s.prof) (fun _ _ ht => ht) cs s rfl

theorem State.MemOk.softAnswers {s : State} (h : s.MemOk) : (cs.foldl softAnswer s).MemOk :=
  softAnswers_inv (p := State.MemOk) (fun _ a ht => ht.writeWhole a) cs s h

/-- Every card answered holds its answer: of two cards of one slot the later writes the same words again. -/
theorem answerWritten_softAnswers {s : State} (h : s.MemOk) {c : InFlight} (hc : c ∈ cs) :
    AnswerWritten (cs.foldl softAnswer s).mem (softAnswerOf s.ord.answers c.slot) := by
  induction cs using List.reverseRecOn with
  | nil => cases hc
  | append_singleton cs d ih =>
    rw [List.foldl_append, List.foldl_cons, List.foldl_nil, softAnswer, softAnswers_ord]
    by_cases hslot : c.slot = d.slot
    · rw [hslot]
      exact answerWritten_writeWhole (h.softAnswers cs) _
    · have hcs : c ∈ cs := (List.mem_append.1 hc).resolve_right fun hd => hslot (congrArg _ (List.mem_singleton.1 hd))
      exact (ih hcs).writeWhole (h.softAnswers cs) (by simpa only [softAnswerOf_slot] using hslot)

theorem softAnswers_read {s : State} (h : s.MemOk) {b : Nat}
    (hb : ∀ c ∈ cs, ∀ n, n = 0 ∨ n = 14 ∨ n = 15 → ¬inWord (cardWord c.slot n) b) :
    (cs.foldl softAnswer s).mem.read b = s.mem.read b := by
  induction cs generalizing s with
  | nil => rfl
  | cons c cs ih =>
    obtain ⟨hc, hcs⟩ := List.forall_mem_cons.1 hb
    have hfirst : (softAnswer s c).mem.read b = s.mem.read b := writeWhole_read h _ (by rwa [softAnswerOf_slot])
    exact (ih (h.writeWhole _) hcs).trans hfirst

/-- The last answer written has raised CARD. -/
theorem softAnswers_notices (hcs : cs ≠ []) : (cs.foldl softAnswer s).notices &&& Notice.card.bit ≠ 0 := by
  induction cs using List.reverseRecOn with
  | nil => exact absurd rfl hcs
  | append_singleton cs d _ =>
    rw [List.foldl_append]
    exact or_bit_and_bit_ne _ .card

end

/-! ## The page word in progress (R185, R190) -/

/-- The word of its page that a publication writes next. -/
def Publication.wordIdx (p : Publication) : WordIdx := pageWordIdx p.page1 (if p.next ≤ 2431 then p.next else 0)

/-- What a publication writes next: a word of the page, or READY. -/
def Publication.word (p : Publication) : Word := if p.next ≤ 2431 then pageWord p.copy p.next else 1

/-- READY stands in the page, and the profile engine is idle with the page as the one written last. -/
def markReady (p : Publication) (s : State) : State :=
  (s.storeWord (pageWordIdx p.page1 0) 1).onProf fun e =>
    { e with lastWritten1 := p.page1, lastPublished := p.copy.scan.number, publication := none }

/-- PUBLISH goes and SCAN is raised once READY stands (R185). -/
theorem completePublication_eq (p : Publication) (s : State) :
    completePublication p s = (giveCondition .publish false (markReady p s)).raise .scan := rfl

theorem cardWord_ne_wordIdx (slot : Slot) (p : Publication) : ∀ n < 16, cardWord slot n ≠ p.wordIdx := fun _ hn =>
  cardWord_ne_pageWordIdx slot p.page1 hn (by split <;> omega)

theorem writePage_mem (p : Publication) (s : State) : (writePage p s).mem = s.mem.writeWord p.wordIdx p.word := by
  unfold writePage Publication.wordIdx Publication.word Config.pageLastWord
  by_cases h : p.next ≤ 2431
  · rw [if_pos h, if_pos h, if_pos h]
    rfl
  · rw [if_neg h, if_neg h, if_neg h]
    simp [completePublication]

/-- A page word leaves the order unit as it stands. -/
theorem writePage_ord (p : Publication) (s : State) : (writePage p s).ord = s.ord := by
  simp only [writePage, completePublication]
  split <;> simp

theorem writePage_arbLast (p : Publication) (s : State) : (writePage p s).arbLast = s.arbLast := by
  simp only [writePage, completePublication]
  split <;> simp

/-- The page word in progress at a soft reset is granted (R190). -/
theorem grantPageWrite_inFlight {s : State} {p : Publication} (hp : s.prof.publication = some p) :
    grantPageWrite s = writePage p (s.withArbLast .profileEngine) := by
  simp only [grantPageWrite, hp]

theorem grantPageWrite_idle {s : State} (hp : s.prof.publication = none) : grantPageWrite s = s := by
  simp only [grantPageWrite, hp]

theorem grantPageWrite_mem {s : State} {p : Publication} (hp : s.prof.publication = some p) :
    (grantPageWrite s).mem = s.mem.writeWord p.wordIdx p.word := by
  rw [grantPageWrite_inFlight hp, writePage_mem, State.withArbLast_mem]

theorem grantPageWrite_ord (s : State) : (grantPageWrite s).ord = s.ord := by
  cases hp : s.prof.publication with
  | none => rw [grantPageWrite_idle hp]
  | some p => rw [grantPageWrite_inFlight hp, writePage_ord, State.withArbLast_ord]

section
variable {s : State} (h : s.MemOk)
include h

/-- The page word leaves every answer in the card table. -/
theorem AnswerWritten.grantPageWrite {a : Answer} (ha : AnswerWritten s.mem a) : AnswerWritten (grantPageWrite s).mem a := by
  cases hp : s.prof.publication with
  | none => rwa [grantPageWrite_idle hp]
  | some p =>
    rw [grantPageWrite_mem hp]
    exact ha.writeWord h p.word (cardWord_ne_wordIdx a.slot p)

theorem grantPageWrite_read {b : Nat} (hb : ∀ p, s.prof.publication = some p → ¬inWord p.wordIdx b) :
    (grantPageWrite s).mem.read b = s.mem.read b := by
  cases hp : s.prof.publication with
  | none => rw [grantPageWrite_idle hp]
  | some p => rw [grantPageWrite_mem hp, Memory.read_writeWord_outside _ h (hb p hp)]

end

/-! ## Notices that stand -/

/-- From one state to the other notices are raised and none is cleared. -/
def State.Raises (s t : State) : Prop := ∃ v, t.notices = s.notices ||| v

theorem State.Raises.of_eq {s t : State} (h : t.notices = s.notices) : s.Raises t := ⟨0, by simp [h]⟩

theorem State.Raises.trans {s t u : State} (h : s.Raises t) (hu : t.Raises u) : s.Raises u := by
  obtain ⟨v, hv⟩ := h
  obtain ⟨w, hw⟩ := hu
  exact ⟨v ||| w, by rw [hw, hv, BitVec.or_assoc]⟩

/-- A notice that is set stands when others are raised (R199). -/
theorem State.Raises.stands {s t : State} (h : s.Raises t) {b : BitVec 7} (hb : s.notices &&& b ≠ 0) : t.notices &&& b ≠ 0 := by
  obtain ⟨v, hv⟩ := h
  rw [hv]
  intro hzero
  refine hb (BitVec.eq_of_getLsbD_eq fun i hi => ?_)
  have hi' := congrArg (fun x : BitVec 7 => x.getLsbD i) hzero
  simp only [BitVec.getLsbD_and, BitVec.getLsbD_or] at hi' ⊢
  revert hi'
  cases s.notices.getLsbD i <;> simp

theorem raises_raise (s : State) (n : Notice) : s.Raises (s.raise n) := ⟨n.bit, rfl⟩

theorem raises_raiseIf (s : State) (c : Bool) (n : Notice) : s.Raises (s.raiseIf c n) := by
  cases c
  · exact .of_eq rfl
  · exact raises_raise s n

theorem raises_giveCondition (k : AlarmKind) (present : Bool) (s : State) : s.Raises (giveCondition k present s) :=
  raises_raiseIf (s.onAlarm _) _ .alarm

theorem raises_completePublication (p : Publication) (s : State) : s.Raises (completePublication p s) :=
  State.Raises.trans (raises_giveCondition .publish false (markReady p s)) (raises_raise _ .scan)

theorem raises_writePage (p : Publication) (s : State) : s.Raises (writePage p s) := by
  unfold writePage
  split
  · exact .of_eq rfl
  · exact raises_completePublication p s

theorem raises_grantPageWrite (s : State) : s.Raises (grantPageWrite s) := by
  cases hp : s.prof.publication with
  | none => exact .of_eq (by rw [grantPageWrite_idle hp])
  | some p =>
    rw [grantPageWrite_inFlight hp]
    exact raises_writePage p (s.withArbLast .profileEngine)

/-! ## The soft reset (R200) -/

theorem cycleStart_rest (s : State) : { cycleStart s with exp := s.exp } = s := by rw [cycleStart_eq]; rfl

/-- A soft reset of the link that sends the frames moves that link alone (R179). -/
theorem softResetExport_rest (s : State) : { softResetExport s with exp := s.exp } = s := by
  simp only [softResetExport]
  split
  · rfl
  · rfl
  · exact congrArg (fun u : State => { u with exp := s.exp }) (cycleStart_rest (s.onExp fun e => { e with next := none }))

section
variable (s : State)

@[simp] theorem softResetExport_ord : (softResetExport s).ord = s.ord := (congrArg State.ord (softResetExport_rest s) :)

@[simp] theorem softResetExport_arbLast : (softResetExport s).arbLast = s.arbLast :=
  (congrArg State.arbLast (softResetExport_rest s) :)

theorem softResetExport_notices : (softResetExport s).notices = s.notices := (congrArg State.notices (softResetExport_rest s) :)

theorem softResetBlocks_ord : (softResetBlocks s).ord = s.ord := by
  simp [softResetBlocks, softResetPortA, softResetAlarm, softResetSheet, softResetStd, softResetProfile, softResetEngine,
    softResetLinks, softResetTime, softResetCarriage]

theorem softResetBlocks_arbLast : (softResetBlocks s).arbLast = s.arbLast := by
  simp [softResetBlocks, softResetPortA, softResetAlarm, softResetSheet, softResetStd, softResetProfile, softResetEngine,
    softResetLinks, softResetTime, softResetCarriage]

end

/-- Of the blocks the carriage controller, the sheet monitor and the alarm unit raise notices; none is cleared. -/
theorem raises_softResetBlocks (s : State) : s.Raises (softResetBlocks s) := by
  have hcarriage : s.Raises (softResetCarriage s) := raises_raise (s.onCar _) .traverse
  have hsheet (u : State) : u.Raises (softResetSheet u) := raises_raiseIf (u.onSheet _) _ .sheet
  have halarm (u : State) : u.Raises (softResetAlarm u) := raises_raiseIf (u.onAlarm _) _ .alarm
  have hexport (u : State) : u.Raises (softResetExport u) := .of_eq (softResetExport_notices u)
  have hstd : s.Raises (softResetStd (softResetProfile (softResetEngine (softResetLinks (softResetTime (softResetCarriage s)))))) :=
    hcarriage.trans (.of_eq rfl)
  have hportA (u : State) : u.Raises ((softResetPortA u).withRefresh none) := .of_eq rfl
  exact (((hstd.trans (hsheet _)).trans (halarm _)).trans (hportA _)).trans (hexport _)

theorem exec_softReset {s : State} (hrun : s.phase = .running) (v : Half) : exec (.softReset v) s =
    .next (driveLines (softResetBlocks (grantPageWrite (softResetOrders (withMask v s))))) :=
  done_whenRunning hrun _

theorem softResetOrders_ord (s : State) : (softResetOrders s).ord =
    ⟨s.ord.lastSlot, none, false, [], [], 0⟩ := by
  simp only [softResetOrders, State.onOrd_ord, softAnswers_ord]

theorem softResetOrders_prof (s : State) : (softResetOrders s).prof = s.prof := softAnswers_prof s.ord.inFlight s

/-- Settles O10: the cards' answers (`answerWritten_softAnswers`), then the page word (`grantPageWrite_mem`), which stands outside the
card table; the blocks touch neither. -/
theorem softResetAnswersEveryCard : Obligations.SoftResetAnswersEveryCard := by
  unfold Obligations.SoftResetAnswersEveryCard
  intro s v hrun hwf
  have hmask : (withMask v s).MemOk := hwf
  have hcards : (softResetOrders (withMask v s)).MemOk := hmask.softResetOrders
  have hprof : (softResetOrders (withMask v s)).prof = s.prof := softResetOrders_prof _
  refine ⟨_, exec_softReset hrun v, fun c hc => ?answers, ⟨fun b hbc hbp => ?others, fun p hp => ⟨?arb, ?page⟩⟩,
    fun hne => ?notice, ?orders⟩
  all_goals simp only [driveLines_mem, driveLines_notices, driveLines_ord, driveLines_arbLast, softResetBlocks_mem]
  case answers =>
    have hwritten : AnswerWritten (grantPageWrite (softResetOrders (withMask v s))).mem (softAnswerOf s.ord.answers c.slot) :=
      AnswerWritten.grantPageWrite hcards (answerWritten_softAnswers s.ord.inFlight hmask hc)
    obtain ⟨hcode, hvalue, hstate⟩ := hwritten
    rw [softAnswerOf_slot] at hcode hvalue hstate
    refine ⟨fun hnone => ?_, fun a ha => ?_⟩
    · rw [hcode, hvalue, hstate, softAnswerOf_abandoned hnone]
      exact ⟨rfl, rfl, rfl⟩
    · rw [hcode, hvalue, hstate, softAnswerOf_decided ha]
      exact ⟨rfl, rfl, rfl⟩
  case others =>
    rw [grantPageWrite_read hcards (hprof ▸ hbp)]
    exact softAnswers_read s.ord.inFlight hmask hbc
  case arb => rw [softResetBlocks_arbLast, grantPageWrite_inFlight (hprof ▸ hp), writePage_arbLast, State.withArbLast_arbLast]
  case page =>
    rw [grantPageWrite_mem (hprof ▸ hp)]
    exact Memory.readWord_writeWord _ _ hcards
  case notice =>
    have hraises := (raises_grantPageWrite (softResetOrders (withMask v s))).trans (raises_softResetBlocks _)
    exact hraises.stands (softAnswers_notices s.ord.inFlight (withMask v s) hne)
  case orders => rw [softResetBlocks_ord, grantPageWrite_ord, softResetOrders_ord]; rfl

end Sys2Proof.Machine
end

section
/-! PROOFS. Chapters 10 and 11, the refresh, the choice of a page, a publication and the words of its page (O22). -/

namespace Sys2Proof.Machine

open Sys2Proof

/-! ## The grant to the one requester that waits (R193) -/

theorem find?_ringAfter (last r : Requester) : (ringAfter last).find? (fun q => decide (q = r)) = some r := by
  cases last <;> cases r <;> rfl

section
variable {s : State} {r : Requester} (hr : OnlyWaits s r)
include hr

theorem OnlyWaits.waits_eq : waits s = fun q => decide (q = r) := by
  funext q
  by_cases hq : q = r
  · rw [hq, hr.1, decide_eq_true rfl]
  · rw [hr.2 q hq, decide_eq_false hq]

theorem OnlyWaits.grantNext : Machine.grantNext s = grantTo r s := by
  simp only [Machine.grantNext, hr.waits_eq, find?_ringAfter]

/-- No other requester comes before it on the ring. -/
theorem OnlyWaits.waitTurn : Machine.waitTurn r s = s.withArbLast r := by
  have hturn : hisTurn r s = true := (hisTurn_iff r s).2 fun q hq => hr.2 q fun he => by simp [he] at hq
  simp only [Machine.waitTurn, grantUntil_wanted hturn]

theorem OnlyWaits.exec_arbiterGrant (hs : Serving s) : exec .arbiterGrant s = .next (driveLines (access r (s.withArbLast r))) := by
  have harbitrate : arbitrate s = access r (s.withArbLast r) := by
    simp only [arbitrate, hs.running, hr.grantNext, grantTo]
  exact congrArg done harbitrate

/-- A grant whose access changes nothing that the lines read. -/
theorem OnlyWaits.exec_arbiterGrant_of (hs : Serving s) (f : State → State) (ha : access r (s.withArbLast r) = f s)
    (hf : driveLines (f s) = f (driveLines s)) : exec .arbiterGrant s = .next (f s) := by
  rw [hr.exec_arbiterGrant hs, ha, hs.settled.update f hf]

end

/-! ## The status block refresh (R201) -/

section
variable {s : State} {r : Refresh} (hs : Serving s) (hr : OnlyWaits s .statusRefresh) (h : s.refresh = some r)
include hs hr h

theorem exec_arbiterGrant_refreshWord (hn : r.next < 64) : exec .arbiterGrant s = .next { s with
    mem := s.mem.writeWord (BitVec.ofNat 14 r.next) (r.words.getD r.next 0)
    refresh := some ⟨r.words, r.next + 1⟩
    arbLast := .statusRefresh } := by
  refine hr.exec_arbiterGrant_of hs (fun u => { u with
    mem := s.mem.writeWord (BitVec.ofNat 14 r.next) (r.words.getD r.next 0)
    refresh := some ⟨r.words, r.next + 1⟩
    arbLast := .statusRefresh }) ?_ rfl
  simp only [access, refreshAccess, State.withArbLast_refresh, h, if_pos hn]
  rfl

theorem exec_arbiterGrant_refreshEnd (hn : 64 ≤ r.next) : exec .arbiterGrant s = .next { s with
    mem := s.mem.writeWord 0 (r.words.getD 0 0)
    refresh := none
    arbLast := .statusRefresh } := by
  refine hr.exec_arbiterGrant_of hs (fun u => { u with
    mem := s.mem.writeWord 0 (r.words.getD 0 0)
    refresh := none
    arbLast := .statusRefresh }) ?_ rfl
  simp only [access, refreshAccess, State.withArbLast_refresh, h, if_neg (Nat.not_lt.2 hn)]
  rfl

end

/-! ## The choice of a page (R182, R183) -/

/-- The choice of a page is over. -/
def dropChoice (s : State) : State := s.onProf fun p => { p with choice := none }

section
variable {s : State} {ch : PageChoice}

theorem readStateWord_page0 (h0 : ch.page0Free = none) :
    readStateWord ch s = s.onProf fun p => { p with choice := some ⟨ch.copy, some (pageFree s false)⟩ } := by
  simp only [readStateWord, h0]

theorem readStateWord_chosen {free0 page1 : Bool} (h0 : ch.page0Free = some free0)
    (h : choosePage free0 (pageFree s true) s.prof.lastWritten1 = some page1) :
    readStateWord ch s = s.onProf fun p => { p with choice := none, publication := some ⟨page1, ch.copy, 1⟩ } := by
  simp only [readStateWord, h0, h]

theorem readStateWord_noneFree (h0 : ch.page0Free = some false) (h1 : pageFree s true = false) :
    readStateWord ch s = unpublished (dropChoice s) := by
  simp only [readStateWord, h0, h1, choosePage, dropChoice]

end

section
variable {s : State} {ch : PageChoice} (hpub : s.prof.publication = none) (hch : s.prof.choice = some ch)
include hpub hch

theorem access_choice : access .profileEngine (s.withArbLast .profileEngine) =
    readStateWord ch (s.withArbLast .profileEngine) := by
  simp only [access, profileAccess, State.withArbLast_prof, hpub, hch]

theorem exec_arbiterGrant_choice (hs : Serving s) (hr : OnlyWaits s .profileEngine) {p : ProfileEngine}
    (h : readStateWord ch (s.withArbLast .profileEngine) = (s.withArbLast .profileEngine).onProf fun _ => p) :
    exec .arbiterGrant s = .next { s with prof := p, arbLast := .profileEngine } :=
  hr.exec_arbiterGrant_of hs (fun u => { u with prof := p, arbLast := .profileEngine })
    ((access_choice hpub hch).trans h) rfl

theorem exec_arbiterGrant_unpublished (hs : Serving s) (hr : OnlyWaits s .profileEngine) (h0 : ch.page0Free = some false)
    (h1 : pageFree s true = false) :
    exec .arbiterGrant s = .next (driveLines (unpublished (dropChoice (s.withArbLast .profileEngine)))) := by
  rw [hr.exec_arbiterGrant hs, access_choice hpub hch, readStateWord_noneFree (s := s.withArbLast .profileEngine) h0 h1]

end

/-- A scan that goes unpublished gives PUBLISH present, and touches no other entry (R183). -/
theorem unpublished_leaves (s : State) : ((unpublished s).alarm.entry .publish).condition = true ∧
    EntriesKept s (unpublished s) [.publish] ∧ { unpublished s with alarm := s.alarm, notices := s.notices } = s :=
  have hgiven := giveCondition_given .publish true s
  ⟨hgiven.level, hgiven.others, giveCondition_rest .publish true s⟩

/-! ## A publication (R185) -/

section
variable {s : State} {p : Publication} (hs : Serving s) (hp : s.prof.publication = some p)
include hp

theorem access_publication : access .profileEngine (s.withArbLast .profileEngine) =
    writePage p (s.withArbLast .profileEngine) := by
  simp only [access, profileAccess, State.withArbLast_prof, hp]

include hs

theorem exec_publicationComplete_early (hn : p.next ≤ 2431) : exec .publicationComplete s = .next s := by
  have hready : readyToComplete s.prof.publication = false := by
    rw [hp]
    exact decide_eq_false (Nat.not_lt.2 hn)
  refine (done_whenRunning hs.running _).trans ?_
  rw [hready]
  exact congrArg _ hs.settled

variable (hr : OnlyWaits s .profileEngine)
include hr

theorem exec_arbiterGrant_pageWord (hn : p.next ≤ 2431) : exec .arbiterGrant s = .next { s with
    mem := s.mem.writeWord (pageWordIdx p.page1 p.next) (pageWord p.copy p.next)
    prof := { s.prof with publication := some { p with next := p.next + 1 } }
    arbLast := .profileEngine } := by
  refine hr.exec_arbiterGrant_of hs (fun u => { u with
    mem := s.mem.writeWord (pageWordIdx p.page1 p.next) (pageWord p.copy p.next)
    prof := { s.prof with publication := some { p with next := p.next + 1 } }
    arbLast := .profileEngine }) ?_ rfl
  rw [access_publication hp, writePage, if_pos (show p.next ≤ Config.pageLastWord from hn)]
  rfl

/-- READY is written at the grant, which the completion waits for as a command of its own. -/
theorem exec_ready (hn : 2431 < p.next) {c : Instr} (hc : c = .arbiterGrant ∨ c = .publicationComplete) :
    exec c s = .next (driveLines (completePublication p (s.withArbLast .profileEngine))) := by
  have hlast : access .profileEngine (s.withArbLast .profileEngine) = completePublication p (s.withArbLast .profileEngine) := by
    rw [access_publication hp, writePage, if_neg (show ¬p.next ≤ Config.pageLastWord from Nat.not_le.2 hn)]
  obtain rfl | rfl := hc
  · rw [hr.exec_arbiterGrant hs, hlast]
  · have hready : readyToComplete s.prof.publication = true := by
      rw [hp]
      exact decide_eq_true hn
    refine (done_whenRunning hs.running _).trans ?_
    rw [hready, if_pos rfl, hr.waitTurn, ← hlast]
    rfl

end

/-- What a completed publication leaves (R185). -/
theorem completePublication_leaves (p : Publication) (s : State) :
    (completePublication p s).arbLast = s.arbLast ∧
    (completePublication p s).mem = s.mem.writeWord (pageWordIdx p.page1 0) 1 ∧
    (completePublication p s).prof =
      { s.prof with lastWritten1 := p.page1, lastPublished := p.copy.scan.number, publication := none } ∧
    (completePublication p s).notices &&& Notice.scan.bit ≠ 0 ∧
    ((completePublication p s).alarm.entry .publish).condition = false ∧ EntriesKept s (completePublication p s) [.publish] ∧
    { completePublication p s with
      mem := s.mem, prof := s.prof, notices := s.notices, alarm := s.alarm } = s := by
  have hgiven := giveCondition_given .publish false (markReady p s)
  rw [completePublication_eq]
  refine ⟨by simp [markReady], by simp [markReady], by simp [markReady], or_bit_and_bit_ne _ .scan, hgiven.level, hgiven.others, ?_⟩
  exact congrArg (fun u : State => { u with mem := s.mem, prof := s.prof }) (giveCondition_rest .publish false (markReady p s))

/-! ## The words of a page (R187, R188) -/

section
variable (c : PublicationCopy)

/-- The streak entries follow word 15 in pairs of words. -/
theorem pageWord_streak {n : Nat} (h16 : 16 ≤ n) (h32 : n < 32) : pageWord c n = streakWord c (n - 16) := by
  obtain ⟨m, rfl⟩ := Nat.exists_eq_add_of_le' h16
  rw [pageWord, if_pos h32]
  rfl

theorem pageWord_noStreak {i k : Nat} (hi : i < 8) (hk : k < 2) (hx : c.streaks[i]? = none) : pageWord c (16 + 2 * i + k) = 0 := by
  have hindex : (16 + 2 * i + k - 16) / 2 = i := by omega
  rw [pageWord_streak c (by omega) (by omega), streakWord, hindex, hx]

theorem pageWord_streakPlace {i : Nat} (hi : i < 8) {x : Streak} (hx : c.streaks[i]? = some x) :
    pageWord c (16 + 2 * i) = packHalves x.start x.width := by
  have hindex : (16 + 2 * i - 16) / 2 = i := by omega
  have hfirst : (16 + 2 * i - 16) % 2 = 0 := by omega
  rw [pageWord_streak c (by omega) (by omega), streakWord, hindex, hx]
  exact if_pos hfirst

theorem pageWord_streakPeak {i : Nat} (hi : i < 8) {x : Streak} (hx : c.streaks[i]? = some x) :
    pageWord c (17 + 2 * i) = packHalves x.peak.toNat 0 := by
  have hindex : (17 + 2 * i - 16) / 2 = i := by omega
  have hsecond : ¬(17 + 2 * i - 16) % 2 = 0 := by omega
  rw [pageWord_streak c (by omega) (by omega), streakWord, hindex, hx]
  exact if_neg hsecond

/-- The bin records follow the header, five words each. -/
theorem pageWord_bin {i k n : Nat} {r : BinResult} (hr : c.scan.bins[i]? = some r) (hk : k < 5) (hn : n = 32 + 5 * i + k) :
    pageWord c n = binWord c r i k := by
  have hindex : (n - 32) / 5 = i := by omega
  have hword : (n - 32) % 5 = k := by omega
  have hpast : ¬n < 32 := by omega
  rw [pageWord, if_neg hpast, hindex, hr, hword]

/-- Zeros follow the last bin record. -/
theorem pageWord_rest {n : Nat} (hn : 32 + 5 * c.scan.bins.length ≤ n) : pageWord c n = 0 := by
  have hnone : c.scan.bins[(n - 32) / 5]? = none := List.getElem?_eq_none (by omega)
  have hpast : ¬n < 32 := by omega
  rw [pageWord, if_neg hpast, hnone]

theorem pageWord5_noEdges (h : c.scan.edges = none) : pageWord c 5 = 0 := by
  change pageWord5 c = 0
  simp only [pageWord5, h]

theorem pageWord5_edges {e z : Nat} (h : c.scan.edges = some (e, z)) (he : e < 512) (hz : z < 512) :
    pageWord c 5 = BitVec.ofNat 32 (e + 65536 * z + 2 ^ 31) := by
  change pageWord5 c = _
  simp only [pageWord5, h, Nat.mod_eq_of_lt he, Nat.mod_eq_of_lt hz]
  rfl

theorem fHalf_eq (v : Int × Bool) : fHalf v = BitVec.ofInt 16 (max (-32768) (min 32767 v.1)) :=
  congrArg _ (saturate16_eq_max_min v.1)

end

/-! ## The writers in their order -/

/-- Settles O22: each grant's access by the writer's stage, then the words of a page by their place. -/
theorem internalWritersWriteInOrder : Obligations.InternalWritersWriteInOrder := by
  unfold Obligations.InternalWritersWriteInOrder
  refine ⟨fun s r hs hr h => ?refresh, fun s ch hs hr hpub hch => ?choice, fun s p hs hr hp => ?publication,
    fun c => ?words⟩
  case refresh =>
    rcases Nat.lt_or_ge r.next 64 with hn | hn
    · refine ⟨_, exec_arbiterGrant_refreshWord hs hr h hn, rfl, rfl, fun _ => ⟨?_, fun a ha => ?_, rfl⟩, fun hge => ?_⟩
      · exact Memory.readWord_writeWord _ _ hs.memory
      · exact Memory.read_writeWord_outside _ hs.memory ha
      · exact absurd hn (Nat.not_lt.2 hge)
    · refine ⟨_, exec_arbiterGrant_refreshEnd hs hr h hn, rfl, rfl, fun hlt => ?_, fun _ => ⟨?_, fun a ha => ?_, rfl⟩⟩
      · exact absurd hlt (Nat.not_lt.2 hn)
      · exact Memory.readWord_writeWord _ _ hs.memory
      · exact Memory.read_writeWord_outside _ hs.memory ha
  case choice =>
    intro free leaves
    refine ⟨fun h0 => ?page0, fun page1 hpage => ?chosen, fun h0 h1 => ?noneFree⟩
    case page0 => exact ⟨_, exec_arbiterGrant_choice hpub hch hs hr (readStateWord_page0 h0), rfl, rfl, rfl⟩
    case chosen =>
      obtain ⟨free0, h0, hchosen⟩ : ∃ free0, ch.page0Free = some free0 ∧
          choosePage free0 (pageFree s true) s.prof.lastWritten1 = some page1 := by
        have hfree : pageFree s true = free true := rfl
        rw [hfree]
        rcases hpage with ⟨h0, h1, rfl⟩ | ⟨h0, h1, rfl⟩ | ⟨h0, h1, rfl⟩
        · exact ⟨true, h0, by rw [h1]; rfl⟩
        · exact ⟨true, h0, by rw [h1]; rfl⟩
        · exact ⟨false, h0, by rw [h1]; rfl⟩
      exact ⟨_, exec_arbiterGrant_choice hpub hch hs hr (readStateWord_chosen h0 hchosen), rfl, rfl, rfl⟩
    case noneFree =>
      obtain ⟨hpresent, hkept, hrest⟩ := unpublished_leaves (dropChoice (s.withArbLast .profileEngine))
      refine ⟨_, exec_arbiterGrant_unpublished hpub hch hs hr h0 h1, by simp [dropChoice], hpresent, hkept, by simp [dropChoice], ?_⟩
      exact congrArg (fun u : State => { u with prof := s.prof, arbLast := s.arbLast, pins := s.pins }) hrest
  case publication =>
    refine ⟨fun hn => ⟨⟨_, exec_arbiterGrant_pageWord hs hp hr hn, rfl, ?word, fun a ha => ?outside, rfl, rfl⟩,
      exec_publicationComplete_early hs hp hn⟩, fun hn cmd hcmd => ?ready⟩
    case word => exact Memory.readWord_writeWord _ _ hs.memory
    case outside => exact Memory.read_writeWord_outside _ hs.memory ha
    case ready =>
      obtain ⟨harb, hmem, hprof, hscan, hgone, hkept, hrest⟩ :=
        completePublication_leaves p (s.withArbLast .profileEngine)
      refine ⟨_, exec_ready hs hp hr hn hcmd, harb, ?_, fun a ha => ?_, hprof, hscan, hgone, hkept, ?_⟩
      · rw [driveLines_mem, hmem]
        exact Memory.readWord_writeWord _ _ hs.memory
      · rw [driveLines_mem, hmem]
        exact Memory.read_writeWord_outside _ hs.memory ha
      · exact congrArg (fun u : State => { u with arbLast := s.arbLast, pins := s.pins }) hrest
  case words =>
    intro sc b v how sheet
    refine ⟨rfl, ?word2, rfl, rfl, fun hnone => ?noEdges, fun e z h he hz => pageWord5_edges c h he hz, rfl, rfl, rfl, rfl, rfl,
      rfl, rfl, rfl, rfl, fun hlen => ?word15, fun i x hi hx => ⟨pageWord_streakPlace c hi hx, pageWord_streakPeak c hi hx⟩,
      fun i hi hx => ⟨pageWord_noStreak c hi (k := 0) (by decide) hx, ?peak⟩, fun i r hr => ?bin, fun n hn => pageWord_rest c hn⟩
    case word2 =>
      have hhow : how = c.scan.completion.code + 4 * c.scan.completion.reasonCode := by
        dsimp only [how, sc]
        cases c.scan.completion with
        | complete => rfl
        | aborted why => cases why <;> rfl
      have hsheet : sheet = c.sheet.code := by
        dsimp only [sheet]
        cases c.sheet <;> rfl
      rw [hhow, hsheet]
      rfl
    case noEdges => exact pageWord5_noEdges c hnone
    case word15 =>
      change pageWord15 c = _
      rw [pageWord15, Nat.mod_eq_of_lt (by omega)]
      rfl
    case peak =>
      rw [show 17 + 2 * i = 16 + 2 * i + 1 by omega]
      exact pageWord_noStreak c hi (by decide) hx
    case bin =>
      intro f half code field
      have hcode : ∀ x, code x = x.code := fun x => by cases x <;> rfl
      refine ⟨?_, ?_, ?_, ?_, fun hcount => ?_⟩
      · rw [pageWord_bin c hr (k := 0) (by decide) (by omega)]; rfl
      · rw [pageWord_bin c hr (k := 1) (by decide) (by omega)]; rfl
      · rw [pageWord_bin c hr (k := 2) (by decide) (by omega), binWord, fHalf_eq, fHalf_eq]; rfl
      · rw [pageWord_bin c hr (k := 3) (by decide) (by omega), binWord, fHalf_eq, fHalf_eq]; rfl
      · rw [pageWord_bin c hr (k := 4) (by decide) (by omega)]
        change binWord4 c r i = _
        simp only [field, hcode, binWord4, stateField, Nat.mod_eq_of_lt hcount]
        rfl

end Sys2Proof.Machine
end

section
/-! PROOFS. Chapters 11 and 12, what the blocks leave of the notices and of the answers owed: every event raises notices and clears none,
and it brings no answers but those of the cards in hand; an order brings one more at most. -/

namespace Sys2Proof.Machine

open Sys2Proof

/-! ## Notices and answers owed -/

/-- The test of R110 keeps the STANDARDIZE card. -/
theorem testDue_card (u : StdUnit) : (testDue u).card = u.card := by
  unfold testDue
  split <;> rfl

/-- How many answers the cards in hand may still bring: those decided, that of the long order under way and that of the STANDARDIZE card
(R12, R112, R211). -/
def State.owed (s : State) : Nat := s.ord.answers.length + s.car.underWay.isSome.toNat + s.std.card.isSome.toNat

/-- From one state to the other notices are raised and none is cleared, and the cards in hand owe at most `n` answers more. -/
structure State.Follows (n : Nat) (s t : State) : Prop where
  raises : s.Raises t
  owed : t.owed ≤ s.owed + n

namespace State.Follows

theorem refl (s : State) : s.Follows 0 s := ⟨.of_eq rfl, le_rfl⟩

theorem trans {n m : Nat} {s t u : State} (h : s.Follows n t) (hu : t.Follows m u) : s.Follows (n + m) u :=
  ⟨h.raises.trans hu.raises, by have := h.owed; have := hu.owed; omega⟩

theorem mono {n m : Nat} {s t : State} (h : s.Follows n t) (hn : n ≤ m) : s.Follows m t := ⟨h.raises, by have := h.owed; omega⟩

end State.Follows

namespace State.Follows

variable {n : Nat} {s t : State} (h : s.Follows n t)
include h

/-! ### Single steps -/

theorem raising {u : State} (hr : t.Raises u) (ho : u.owed = t.owed) : s.Follows n u := ⟨h.raises.trans hr, ho ▸ h.owed⟩

theorem same {u : State} (hn : u.notices = t.notices := by rfl) (ho : u.owed = t.owed := by rfl) : s.Follows n u :=
  h.raising (.of_eq hn) ho

theorem raise (k : Notice) : s.Follows n (t.raise k) := h.raising (raises_raise t k) rfl

theorem raiseIf (c : Bool) (k : Notice) : s.Follows n (t.raiseIf c k) := by
  cases c
  · exact h
  · exact h.raise k

theorem giveCondition (k : AlarmKind) (present : Bool) : s.Follows n (giveCondition k present t) :=
  h.raising (raises_giveCondition k present t) (by simp [State.owed])

theorem onCar {f : CarriageController → CarriageController} (hf : ∀ k, (f k).underWay = k.underWay := by exact fun _ => rfl) :
    s.Follows n (t.onCar f) :=
  h.same rfl (by simp only [State.owed, State.onCar_ord, State.onCar_std, State.onCar_car, hf])

theorem onStd {f : StdUnit → StdUnit} (hf : ∀ u, (f u).card = u.card := by exact fun _ => rfl) : s.Follows n (t.onStd f) :=
  h.same rfl (by simp only [State.owed, State.onStd_ord, State.onStd_car, State.onStd_std, hf])

theorem onProf {f : ProfileEngine → ProfileEngine} : s.Follows n (t.onProf f) := h.same

theorem onEng {f : Engine → Engine} : s.Follows n (t.onEng f) := h.same

theorem onSheet {f : SheetMonitor → SheetMonitor} : s.Follows n (t.onSheet f) := h.same

theorem onAlarm {f : AlarmUnit → AlarmUnit} : s.Follows n (t.onAlarm f) := h.same

/-! ### Answers (R211, R212) -/

theorem queueAnswer (slot : Slot) (c : ResultCode) (v : Word) (b : Bool) : s.Follows (n + 1) (queueAnswer slot c v b t) :=
  h.trans ⟨.of_eq rfl, by
    show (t.ord.answers ++ [_]).length + _ + _ ≤ t.owed + 1
    rw [List.length_append, List.length_singleton, State.owed]
    show t.ord.answers.length + 1 + t.car.underWay.isSome.toNat + t.std.card.isSome.toNat ≤ _
    omega⟩

theorem answer (slot : Slot) (c : ResultCode) (v : Word) : s.Follows (n + 1) (answer slot c v t) := h.queueAnswer slot c v true

theorem answerEnded (slot : Slot) (c : ResultCode) (v : Word) : s.Follows (n + 1) (answerEnded slot c v t) :=
  h.queueAnswer slot c v false


/-- The answer of the long order under way is decided: it is owed no longer but waits to be written. -/
theorem answerLong (c : ResultCode) (v : Word) : s.Follows n (answerLong c v t) := by
  refine h.same (answerLong_notices c v t) ?_
  unfold Machine.answerLong
  split
  · rfl
  · next hl =>
    show (t.ord.answers ++ [_]).length + (none : Option LongOrder).isSome.toNat + t.std.card.isSome.toNat = t.owed
    simp [State.owed, hl]

theorem answerStd (c : ResultCode) (v : Word) : s.Follows n (answerStd c v t) := by
  refine h.same (answerStd_notices c v t) ?_
  unfold Machine.answerStd
  split
  · rfl
  · next hl =>
    show (t.ord.answers ++ [_]).length + t.car.underWay.isSome.toNat + (none : Option Slot).isSome.toNat = t.owed
    simp [State.owed, hl]
    omega

theorem holdLong (kind : LongKind) (slot : Slot) : s.Follows (n + 1) (holdLong kind slot t) := by
  refine h.trans ⟨.of_eq (holdLong_notices kind slot t), ?_⟩
  simp [State.owed, Machine.holdLong, CarriageController.underWay]
  omega

theorem replaceLong (c : ResultCode) (kind : LongKind) (slot : Slot) : s.Follows (n + 1) (replaceLong c kind slot t) := by
  unfold Machine.replaceLong
  split
  · exact h.holdLong kind slot
  · next l hl =>
    refine answerEnded (h.same (ho := ?_)) l.slot c 0
    show t.ord.answers.length + (some _ : Option LongOrder).isSome.toNat + t.std.card.isSome.toNat = t.owed
    simp [State.owed, hl]

theorem abandonWaiting : s.Follows n (abandonWaiting t) := by
  unfold Machine.abandonWaiting
  split
  · exact h.answerStd .abandoned 0
  · exact h

theorem abandonDwell : s.Follows n (abandonDwell t) := by
  unfold Machine.abandonDwell
  split
  · exact h
  · exact answerStd h.same .abandoned 0

/-! ### The sheet and the close of a scan -/

theorem breakEffects (src : BreakSource) : s.Follows n (breakEffects src t) := by
  refine (((giveCondition ?_ .edge false).giveCondition .wetStreak false).giveCondition .sheetBreak true).raise .sheet
  exact h.same

theorem takeBreakQuiet (src : BreakSource) : s.Follows n (takeBreakQuiet src t) := by
  unfold Machine.takeBreakQuiet
  split
  · exact h
  · exact h.breakEffects src

theorem takeDueBreaks : s.Follows n (takeDueBreaks t) := by
  have hsample : s.Follows n (takeSampleQuiet t) := by
    unfold takeSampleQuiet
    split
    · exact takeBreakQuiet h.same .sample
    · exact h
  unfold Machine.takeDueBreaks takeExternalQuiet
  split
  · exact takeBreakQuiet hsample.same .external
  · exact hsample

theorem sheetOnEffects : s.Follows n (sheetOnEffects t) :=
  (giveCondition h.same .sheetBreak false).raise .sheet

theorem evaluateSheet (a z : Nat) : s.Follows n (evaluateSheet a z t) := by
  have hconfirmed : s.Follows n (confirmSheet t) := by
    unfold confirmSheet
    split
    · exact raise h.same .sheet
    · exact h
  exact (((giveCondition hconfirmed.same .edge _).giveCondition .wetStreak _).giveCondition .weight _).giveCondition .moisture _

theorem startPublication (c : ClosedScan) : s.Follows n (startPublication c t) := by
  unfold Machine.startPublication
  split
  · exact h.same
  · exact h.giveCondition .publish true

theorem handOff (c : ClosedScan) : s.Follows n (handOff c t) := by
  have hloss := h.giveCondition .sampleLoss c.sampleLoss
  have hdone {u : State} (hu : s.Follows n u) : s.Follows n (if c.binsDone = 0 then u else Machine.startPublication c u) := by
    split
    · exact hu
    · exact hu.startPublication c
  unfold Machine.handOff
  refine hdone ?_
  split
  · exact (evaluateSheet (hloss.onProf : s.Follows n (filterUpdate c _)) _ _).onProf
  · exact hloss.onProf.takeBreakQuiet .noSheet
  · exact hloss.onProf

theorem closeScan (how : Completion) : s.Follows n (closeScan how t) := by
  unfold Machine.closeScan
  split
  · exact h
  · refine handOff (h.same ?_ ?_) _
    · simp
    · simp [State.owed]

/-! ### Moves (R6 to R20) -/

theorem enterFaulted (cause : FaultCause) : s.Follows n (enterFaulted cause t) := by
  unfold Machine.enterFaulted
  split
  · exact h
  extract_lets t₁ t₂ t₃
  have hclosed : s.Follows n t₁ := by
    unfold t₁
    split
    · exact h.closeScan _
    · exact h
  have hended : s.Follows n t₂ := by
    unfold t₂
    split
    · exact hclosed.abandonDwell
    · exact hclosed
  have hfaulted : s.Follows n t₃ := hended.onCar
  exact ((hfaulted.raise .traverse).answerLong .abandoned 0).abandonWaiting.giveCondition cause.alarm true

theorem startMoveIn (p : Purpose) (target : Nat) (dir : Direction) : s.Follows n (startMoveIn p target dir t) := by
  unfold Machine.startMoveIn
  split
  · exact h.onCar.enterFaulted _
  · exact h.onCar

theorem startMove (p : Purpose) (target : Nat) : s.Follows n (startMove p target t) := h.startMoveIn ..

theorem startSeek : s.Follows n (startSeek t) := by
  unfold Machine.startSeek
  split
  · exact h.onCar.enterFaulted _
  · have hzero {u : State} (hu : s.Follows n u) (b : Beam) : s.Follows n (zeroIfHome b u) := by
      unfold zeroIfHome
      split
      · exact hu.onCar
      · exact hu
    exact (hzero (hzero h .lower) .upper).onCar

theorem startPark : s.Follows n (startPark t) := startMove h.onCar _ _

theorem enterParked (side : Side) : s.Follows n (enterParked side t) := by
  unfold Machine.enterParked
  split
  · exact h
  · exact (raise h.onCar .traverse).abandonWaiting

theorem enterHalted : s.Follows n (enterHalted t) := (raise h.onCar .traverse).abandonWaiting

theorem openScan (f : FrameRecord) (dir : Direction) : s.Follows n (openScan f dir t) :=
  h.same (openScan_notices f dir t) (by simp [State.owed])

theorem traverseStart (side : Side) : s.Follows n (traverseStart side t) := by
  unfold Machine.traverseStart
  extract_lets purpose
  split
  · exact h.onCar.enterFaulted _
  · next m t₁ t₂ t₃ t₄ t₅ _ _ =>
    have hcounted : s.Follows n t₃ := onStd h.onProf.onCar fun _ => testDue_card _
    have hstarted : s.Follows n t₅ := hcounted.onEng.onProf
    split
    · exact hstarted
    · exact hstarted.openScan _ _

theorem parkDecision (side : Side) : s.Follows n (parkDecision side t) := by
  unfold Machine.parkDecision
  extract_lets t'
  have hplan : s.Follows n t' := h.onCar fun k => by unfold takeNextPlan; split <;> rfl
  have hcleared : s.Follows n (clearPlan t') := hplan.onCar
  (repeat' split)
  · exact (hcleared.enterParked side).answerLong .ok 0
  · exact hplan
  · exact startMove (hplan.onCar) _ _
  · exact hplan.enterParked side
  · exact hplan.traverseStart side
  · exact hcleared.enterParked side

theorem turnaround (side : Side) : s.Follows n (turnaround side t) := by
  unfold Machine.turnaround
  extract_lets t'
  have hclosed : s.Follows n t' := (h.closeScan .complete).takeDueBreaks
  split
  · exact hclosed.onCar.onStd
  · exact hclosed.parkDecision side

theorem afterMove (p : Purpose) (target : Nat) : s.Follows n (afterMove p target t) := by
  cases p with
  | seek => exact startMove h.onCar _ _
  | parkHome =>
    have hparked := (h.onCar (f := fun k => { k with cause := none })).enterParked .tending
    exact ((hparked.giveCondition .alignment false).giveCondition .travel false).answerLong .ok 0
  | traverse side => exact h.turnaround side
  | point => exact h.onCar.answerLong .ok _
  | park side => exact (h.enterParked side).answerLong .ok 0
  | breakReturn side => exact h.parkDecision side
  | probe =>
    change s.Follows n (t.onCar fun k => { k with traverse := .probing true })
    exact h.onCar
  | returning side => exact h.parkDecision side

theorem settleMoves (k : Nat) : s.Follows n (settleMoves k t) := by
  induction k generalizing t with
  | zero => exact h
  | succ k ih =>
    unfold Machine.settleMoves
    (repeat' split)
    · exact h
    · exact ih (h.onCar.afterMove _ _)
    · exact h

theorem settle : s.Follows n (settle t) := h.settleMoves _

theorem breakRequest : s.Follows n (breakRequest t) := by
  unfold Machine.breakRequest
  extract_lets t₁ t₂ side
  have hanswered : s.Follows n t₁ := by
    unfold t₁
    split
    · exact h
    · exact h.answerLong .abandoned 0
  have hclosed : s.Follows n t₂ := by
    unfold t₂
    split
    · exact hanswered.closeScan _
    · exact hanswered
  exact (startMove (hclosed.onCar) _ _).settle

theorem takeBreak (src : BreakSource) : s.Follows n (takeBreak src t) := by
  have hoff := h.breakEffects src
  simp only [Machine.takeBreak]
  (repeat' split)
  · exact h
  · exact hoff.breakRequest
  · exact hoff

theorem declareSheetOn : s.Follows n (declareSheetOn t) := by
  have hon := h.sheetOnEffects
  unfold Machine.declareSheetOn reportSheetOn
  split
  · exact (startMove (hon.onCar) _ _).settle
  · exact (hon.parkDecision _).settle
  · exact hon

/-! ### Orders (R210 to R212) -/

theorem takeSetFrame (slot : Slot) (r : FrameRecord) : s.Follows (n + 1) (takeSetFrame slot r t) := by
  unfold Machine.takeSetFrame
  split
  · extract_lets geo pre inv t₁ t₂ t₃ t₄
    have hframe : s.Follows n t₁ := h.onCar
    have hgeo : s.Follows n t₂ := by
      unfold t₂
      split
      · exact (giveCondition hframe.same .edge false).giveCondition .wetStreak false
      · exact hframe
    have hedges : s.Follows n t₃ := by
      unfold t₃
      split
      · exact hgeo.onCar
      · exact hgeo
    have hinv : s.Follows n t₄ := by
      have hinvalid := hedges.onCar (f := fun k => { k with valid := false })
      simp only [t₄, invalidatePositions]
      (repeat' split)
      · exact hinvalid.enterHalted
      · exact hinvalid
      · exact hedges
    exact hinv.answer slot .ok _
  · exact h.answer slot .busy 0

theorem takeHome (slot : Slot) : s.Follows (n + 1) (takeHome slot t) := by
  unfold Machine.takeHome
  (repeat' split)
  · exact h.answer slot .notReady 0
  · exact (startSeek ((h.holdLong .home slot).onCar)).settle
  · exact h.answer slot .busy 0

theorem scanFromPark (slot : Slot) (side : Side) : s.Follows (n + 1) (scanFromPark slot side t) := by
  have hstarted := h.traverseStart side
  simp only [Machine.scanFromPark]
  split
  · exact (hstarted.answer slot .ok _).settle
  · exact hstarted.answer slot .abandoned 0

theorem takeScan (slot : Slot) (k : Nat) : s.Follows (n + 1) (takeScan slot k t) := by
  have hlater {u : State} (hu : s.Follows n u) : s.Follows (n + 1) (scanLater slot u) := hu.answer slot .ok _
  unfold Machine.takeScan
  split
  · exact h.answer slot .notReady 0
  split
  case h_1 side _ =>
    dsimp only
    split
    · exact (parkDecision (hlater h.onCar) side).settle
    · exact h.onCar.scanFromPark slot side
  case h_2 =>
    split
    · exact h.answer slot .busy 0
    · exact hlater h.onCar
  case h_3 | h_4 | h_5 | h_6 => exact hlater h.onCar
  all_goals exact h.answer slot _ 0

theorem takeMoveTo (slot : Slot) (target : Nat) : s.Follows (n + 1) (takeMoveTo slot target t) := by
  unfold Machine.takeMoveTo
  split
  · exact h.answer slot _ 0
  · have hcleared : s.Follows n (clearPlan t) := h.onCar
    exact (startMove ((hcleared.replaceLong .superseded .moveTo slot).onCar) .point target).settle

theorem takePark (slot : Slot) : s.Follows (n + 1) (takePark slot t) := by
  unfold Machine.takePark
  split
  case h_1 => exact (h.holdLong .park slot).startPark.settle
  all_goals exact h.answer slot _ 0

theorem stopByPark (slot : Slot) : s.Follows (n + 1) (stopByPark slot t) := (h.replaceLong _ .stopNow slot).startPark.settle

theorem supersedeStopEnd : s.Follows n (supersedeStopEnd t) := by
  unfold Machine.supersedeStopEnd
  split
  · exact h.answerLong .superseded 0
  · exact h

theorem stopNowIn (slot : Slot) : s.Follows (n + 1) (stopNowIn slot t) := by
  unfold Machine.stopNowIn
  split
  · exact (h.closeScan _).stopByPark slot
  · exact (h.supersedeStopEnd.abandonDwell.enterParked _).answer slot .ok 0
  · exact h.stopByPark slot
  · exact h.stopByPark slot
  · exact h.stopByPark slot
  · exact h.replaceLong _ .stopNow slot
  · exact h.supersedeStopEnd.answer slot .ok 0
  · exact (enterHalted ((h.answerLong _ 0).onCar)).answer slot .ok 0
  · exact h.answer slot .notReady 0
  · exact h.answer slot .notReady 0

theorem takeStopNow (slot : Slot) : s.Follows (n + 1) (takeStopNow slot t) := by
  unfold Machine.takeStopNow
  split
  · exact h.answer slot _ 0
  · exact stopNowIn h.onCar slot

theorem takeStopEnd (slot : Slot) : s.Follows (n + 1) (takeStopEnd slot t) := by
  unfold Machine.takeStopEnd
  split
  · exact h.answer slot _ 0
  split
  · exact h.takeStopNow slot
  split
  · exact h.onCar.holdLong .stopEnd slot
  · exact h.onCar.holdLong .stopEnd slot
  · exact h.holdLong .stopEnd slot
  · exact h.onCar.answer slot .ok 0

theorem takeStop (slot : Slot) (mode : Nat) : s.Follows (n + 1) (takeStop slot mode t) := by
  unfold Machine.takeStop
  split
  · exact h.takeStopEnd slot
  · exact h.takeStopNow slot

theorem holdStd (slot : Slot) : s.Follows (n + 1) (holdStd slot t) := by
  refine h.trans ⟨.of_eq rfl, ?_⟩
  show t.ord.answers.length + t.car.underWay.isSome.toNat + 1 ≤ t.owed + 1
  simp only [State.owed]
  omega

theorem takeStandardize (slot : Slot) : s.Follows (n + 1) (takeStandardize slot t) := by
  have hdue : s.Follows n (setDue t) := h.same
  unfold Machine.takeStandardize
  split
  · exact h.answer slot .notReady 0
  split
  · exact h.answer slot .busy 0
  split
  case h_1 side _ =>
    have hdwell : s.Follows n (setDue (t.onCar fun k => { k with traverse := .standardizing side })) := h.onCar.onStd
    exact (hdwell.holdStd slot).same
  case h_2 => exact h.holdStd slot
  case h_3 | h_4 | h_5 | h_6 => exact hdue.holdStd slot
  all_goals exact h.answer slot _ 0

theorem takeSetStd (slot : Slot) (p : StdSettings) : s.Follows (n + 1) (takeSetStd slot p t) := by
  unfold Machine.takeSetStd
  split
  · exact h.answer slot .busy 0
  · have hset : s.Follows n (t.onStd fun _ => testDue { t.std with settings := p }) := h.same rfl (by
      simp only [State.owed, State.onStd_ord, State.onStd_car, State.onStd_std, testDue_card])
    exact hset.answer slot .ok _

theorem takeResume (slot : Slot) : s.Follows (n + 1) (takeResume slot t) := by
  unfold Machine.takeResume
  (repeat' split)
  · exact (h.answer slot .ok _).declareSheetOn
  · exact h.answer slot .busy 0
  · exact h.answer slot .notReady 0

theorem takeSetAlarm (slot : Slot) (c : AlarmCard) : s.Follows (n + 1) (takeSetAlarm slot c t) := by
  unfold Machine.takeSetAlarm
  split
  · exact h.answer slot .badParam 0
  · exact (raiseIf h.same _ .alarm).answer slot .ok _

/-- An order brings one answer more at most, at once or through the slot its card takes. -/
theorem handOver (slot : Slot) (o : Order) : s.Follows (n + 1) (handOver slot o t) := by
  cases o with
  | setFrame r => exact h.takeSetFrame slot r
  | home => exact h.takeHome slot
  | scan k => exact h.takeScan slot k
  | stop mode => exact h.takeStop slot mode
  | moveTo target => exact h.takeMoveTo slot target
  | park => exact h.takePark slot
  | setTimebase tick sample =>
    change s.Follows (n + 1) (takeSetTimebase slot tick sample t)
    unfold takeSetTimebase
    split
    · exact answer h.same slot .ok 0
    · exact h.answer slot .busy 0
  | setCal q v =>
    change s.Follows (n + 1) (takeSetCal slot q v t)
    unfold takeSetCal
    split
    · exact answer h.same slot .ok 1
    · exact answer h.same slot .ok 0
  | setProfile p =>
    change s.Follows (n + 1) (takeSetProfile slot p t)
    unfold takeSetProfile
    split
    · exact answer h.same slot .ok 1
    · exact answer h.same slot .ok 0
  | reseed => exact answer h.same slot .ok _
  | standardize => exact h.takeStandardize slot
  | setStd p => exact h.takeSetStd slot p
  | setSheet p => exact answer h.same slot .ok 0
  | resume => exact h.takeResume slot
  | setAlarm c => exact h.takeSetAlarm slot c
  | ackAlarms mask => exact (raiseIf h.same _ .alarm).answer slot .ok _
  | silenceHorn => exact answer h.same slot .ok _
  | setHorn tone =>
    refine answer ?_ slot .ok 0
    split
    · exact h.same
    · exact h.same
  | setExport c => exact answer h.same slot .ok _
  | setGuard c => exact answer h.same slot .ok 0
  | clearGuardFault =>
    change s.Follows (n + 1) (takeClearGuardFault slot t)
    unfold takeClearGuardFault
    split
    · exact h.answer slot .ok 0
    · exact (giveCondition h.same .access false).answer slot .ok _

theorem takeCard (slot : Slot) (code : Nat) (o : Option Order) : s.Follows (n + 1) (takeCard slot code o t) := by
  have hmarked : s.Follows n (markTaken slot code o t) := h.same
  unfold Machine.takeCard checkCard
  (repeat' split)
  · exact hmarked.answer slot _ 0
  · exact hmarked.mono n.le_succ
  · exact hmarked.handOver slot _

end State.Follows
end Sys2Proof.Machine
end

section
/-! PROOFS. Chapter 11, what every command keeps: the canonical form of the memory (O4), the notices (O12) and the read capture (O17). The
exceptions are the resets, the host's NOTICE write and the low-half read. -/

namespace Sys2Proof.Machine

open Sys2Proof

/-! ## The ports stand apart from what the blocks do -/

/-- Both ports as they stand. -/
def State.ports (s : State) : PortA × PortB := (s.portA, s.portB)

theorem ports_of_surround {s t : State} (h : t.surround = s.surround) : t.ports = s.ports :=
  congrArg (fun x : Surround => (x.portA, x.portB)) h

section
variable (s : State)

theorem handOver_ports (slot : Slot) (o : Order) : (handOver slot o s).ports = s.ports := by
  cases o with
  | setFrame r => exact ports_of_surround (takeSetFrame_surround ..)
  | home => exact ports_of_surround (takeHome_surround ..)
  | scan n => exact ports_of_surround (takeScan_surround ..)
  | stop mode => exact ports_of_surround (takeStop_surround ..)
  | moveTo target => exact ports_of_surround (takeMoveTo_surround ..)
  | park => exact ports_of_surround (takePark_surround ..)
  | setTimebase tick sample =>
    change (takeSetTimebase slot tick sample s).ports = s.ports
    unfold takeSetTimebase
    split <;> rfl
  | setCal q v => exact ports_of_surround (takeSetCal_surround ..)
  | setProfile p => exact ports_of_surround (takeSetProfile_surround ..)
  | reseed => exact ports_of_surround (takeReseed_surround ..)
  | standardize => exact ports_of_surround (takeStandardize_surround ..)
  | setStd p => exact ports_of_surround (takeSetStd_surround ..)
  | setSheet p => exact ports_of_surround (takeSetSheet_surround ..)
  | resume => exact ports_of_surround (takeResume_surround ..)
  | setAlarm c => exact ports_of_surround (takeSetAlarm_surround ..)
  | ackAlarms mask => exact ports_of_surround (takeAckAlarms_surround ..)
  | silenceHorn => exact ports_of_surround (takeSilenceHorn_surround ..)
  | setHorn tone =>
    change (takeSetHorn slot tone s).ports = s.ports
    simp only [takeSetHorn]
    split <;> rfl
  | setExport c => rfl
  | setGuard c => rfl
  | clearGuardFault =>
    change (takeClearGuardFault slot s).ports = s.ports
    unfold takeClearGuardFault
    split
    · rfl
    · exact ports_of_surround (s := s.onGuard fun g => { g with fault := none }) (by simp)

theorem takeCard_ports (slot : Slot) (code : Nat) (o : Option Order) : (takeCard slot code o s).ports = s.ports := by
  unfold takeCard checkCard
  (repeat' split)
  · rfl
  · rfl
  · exact (handOver_ports ..).trans rfl

theorem trimService_ports : (trimService s).ports = s.ports := ports_of_surround (trimService_surround s)

theorem orderUnitAccess_ports : (orderUnitAccess s).ports = s.ports := by
  unfold orderUnitAccess writeAnswer readCard
  (repeat' split)
  · rfl
  · rfl
  · exact (ports_of_surround (passSlot_surround ..)).trans (trimService_ports _)
  · rfl
  · rfl
  · exact (trimService_ports _).trans (takeCard_ports ..)
  · exact ports_of_surround (examineSlot_surround ..)

theorem profileAccess_ports : (profileAccess s).ports = s.ports := by
  unfold profileAccess writePage
  (repeat' split)
  · rfl
  · next _ _ p _ _ =>
    rw [completePublication_eq]
    exact ports_of_surround (s := markReady p s) (by simp)
  · exact ports_of_surround (readStateWord_surround ..)
  · rfl

theorem access_ports (r : Requester) : (access r s).ports = s.ports := by
  cases r with
  | portA => rfl
  | portB => rfl
  | orderUnit => exact orderUnitAccess_ports s
  | profileEngine => exact profileAccess_ports s
  | statusRefresh =>
    change (refreshAccess s).ports = s.ports
    unfold refreshAccess
    (repeat' split) <;> rfl

theorem grantNext_ports : (grantNext s).ports = s.ports := by
  unfold grantNext
  split
  · rfl
  · exact access_ports (s.withArbLast _) _

theorem grantUntil_ports (wanted : State → Bool) (n : Nat) : (grantUntil wanted n s).ports = s.ports :=
  grantUntil_inv (p := fun t => t.ports = s.ports) (fun t h => (grantNext_ports t).trans h) wanted n s rfl

theorem waitTurn_ports (p : Requester) : (waitTurn p s).ports = s.ports := grantUntil_ports s _ _

theorem waitTurn_portA (p : Requester) : (waitTurn p s).portA = s.portA := congrArg Prod.fst (waitTurn_ports s p)

theorem waitTurn_portB (p : Requester) : (waitTurn p s).portB = s.portB := congrArg Prod.snd (waitTurn_ports s p)

theorem deliver_ports (slot : Slot) (o : Order) : (deliver slot o s).ports = s.ports := by
  refine whenRunning_keeps State.ports (fun t => ?_) s
  dsimp only
  split
  · exact grantUntil_ports ..
  · exact (trimService_ports _).trans ((takeCard_ports ..).trans (grantUntil_ports ..))

theorem reportDenial_ports (port : Port) (kind : AccessKind) (addr : Half) : (reportDenial port kind addr s).ports = s.ports := by
  unfold reportDenial
  split
  · exact (ports_of_surround (giveCondition_surround ..)).trans rfl
  · rfl

/-! ## Notices raised by the accesses -/

theorem raises_trimService : s.Raises (trimService s) := by
  obtain ⟨v, hv, _⟩ := trimService_eq s
  exact .of_eq (by rw [hv])

theorem raises_writeAnswer (a : Answer) : s.Raises (writeAnswer a s) := by
  unfold writeAnswer
  (repeat' split)
  · exact .of_eq rfl
  · exact .of_eq rfl
  · exact (State.Raises.trans ⟨Notice.card.bit, rfl⟩ (raises_trimService _)).trans (.of_eq rfl)

theorem raises_orderUnitAccess : s.Raises (orderUnitAccess s) := by
  unfold orderUnitAccess readCard examineSlot
  (repeat' split)
  · exact raises_writeAnswer s _
  · exact .of_eq rfl
  · exact .of_eq rfl
  · exact ((State.Follows.refl s).same.takeCard _ _ _).raises.trans (raises_trimService _)
  · exact .of_eq rfl
  · exact .of_eq rfl
  · exact raises_trimService (s.onOrd _)

theorem raises_profileAccess : s.Raises (profileAccess s) := by
  unfold profileAccess readStateWord
  (repeat' split)
  · exact raises_writePage _ s
  · exact .of_eq rfl
  · exact raises_giveCondition .publish true (s.onProf _)
  · exact .of_eq rfl
  · exact .of_eq rfl

theorem raises_access (r : Requester) : s.Raises (access r s) := by
  cases r with
  | portA => exact .of_eq rfl
  | portB => exact .of_eq rfl
  | orderUnit => exact raises_orderUnitAccess s
  | profileEngine => exact raises_profileAccess s
  | statusRefresh =>
    change s.Raises (refreshAccess s)
    unfold refreshAccess
    (repeat' split) <;> exact .of_eq rfl

theorem raises_grantNext : s.Raises (grantNext s) := by
  unfold grantNext
  split
  · exact .of_eq rfl
  · exact raises_access (s.withArbLast _) _

theorem raises_grantUntil (wanted : State → Bool) (n : Nat) : s.Raises (grantUntil wanted n s) :=
  grantUntil_inv (p := s.Raises) (fun t h => h.trans (raises_grantNext t)) wanted n s (.of_eq rfl)

theorem raises_waitTurn (p : Requester) : s.Raises (waitTurn p s) := raises_grantUntil s _ _

theorem raises_deliver (slot : Slot) (o : Order) : s.Raises (deliver slot o s) := by
  refine whenRunning_inv (p := s.Raises) (.of_eq rfl) fun _ => ?_
  have hgrants := raises_grantUntil s mayTake (takeFuel s)
  dsimp only
  split
  · exact hgrants
  · exact (hgrants.trans ((State.Follows.refl _).takeCard ..).raises).trans (raises_trimService _)

theorem raises_reportDenial (port : Port) (kind : AccessKind) (addr : Half) : s.Raises (reportDenial port kind addr s) := by
  unfold reportDenial
  split
  · exact (raises_raise (s.onGuard _) .guard).trans (raises_giveCondition .access true _)
  · exact .of_eq rfl

end

/-! ## What a command keeps -/

/-- The canonical form of the memory is kept, notices are raised and none is cleared, and the read capture stays. -/
structure State.Continues (s t : State) : Prop where
  memory : s.MemOk → t.MemOk
  raises : s.Raises t
  capture : t.portA.capture = s.portA.capture

namespace State.Continues

theorem refl (s : State) : s.Continues s := ⟨id, .of_eq rfl, rfl⟩

variable {s t : State}

section
variable (h : s.Continues t)
include h

theorem trans {u : State} (hu : t.Continues u) : s.Continues u :=
  ⟨fun hm => hu.memory (h.memory hm), h.raises.trans hu.raises, hu.capture.trans h.capture⟩

theorem kept {u : State} (hm : u.mem = t.mem := by rfl) (hn : u.notices = t.notices := by rfl)
    (hp : u.portA.capture = t.portA.capture := by rfl) : s.Continues u :=
  h.trans ⟨fun h => h.of_eq hm, .of_eq hn, hp⟩

/-- An event of the blocks inside their surround. -/
theorem event {u : State} (hu : u.surround = t.surround) (hr : t.Raises u) : s.Continues u :=
  h.trans ⟨fun h => h.of_eq (congrArg Surround.mem hu), hr, congrArg (fun x : Surround => x.portA.capture) hu⟩

theorem doIf (c : Bool) {f : State → State} (hf : ∀ u, s.Continues u → s.Continues (f u)) : s.Continues (doIf c f t) := by
  unfold Machine.doIf
  split
  · exact hf t h
  · exact h

end

theorem whenRunning {f : State → State} (h : s.Continues (f s)) : s.Continues (whenRunning s f) :=
  whenRunning_inv (p := s.Continues) (.refl s) fun _ => h

theorem whenReleased {f : State → State} (hst : s.Continues t) (h : t.Continues (f t)) : s.Continues (whenReleased t f) :=
  whenReleased_inv (p := s.Continues) hst fun _ => hst.trans h

theorem portPhase {f g : State → State} (hf : s.Continues (f s)) (hg : s.Continues (g s)) : s.Continues (portPhase s f g) :=
  portPhase_inv (p := s.Continues) (.refl s) (fun _ => hf) fun _ => hg

theorem of_done {u : State} (h : s.Continues u) (ht : done u = .next t) : s.Continues t := by
  obtain rfl : driveLines u = t := Host.Outcome.next.inj ht
  exact h.kept

end State.Continues

section
variable (s : State)

theorem continues_waitTurn (p : Requester) : s.Continues (waitTurn p s) :=
  ⟨fun h => h.waitTurn p, raises_waitTurn s p, by rw [waitTurn_portA]⟩

theorem continues_deliver (slot : Slot) (o : Order) : s.Continues (deliver slot o s) :=
  ⟨fun h => h.deliver slot o, raises_deliver s slot o, congrArg (·.1.capture) (deliver_ports s slot o)⟩

theorem continues_reportDenial (port : Port) (kind : AccessKind) (addr : Half) : s.Continues (reportDenial port kind addr s) :=
  ⟨fun h => h.of_eq (by simp), raises_reportDenial s port kind addr, congrArg (·.1.capture) (reportDenial_ports s port kind addr)⟩

theorem continues_grantTo (r : Requester) : s.Continues (grantTo r s) :=
  ⟨fun h => h.grantTo r, raises_access (s.withArbLast r) r, congrArg (·.1.capture) (access_ports (s.withArbLast r) r)⟩

/-! ### The ports -/

theorem continues_lowHalfWrite (addr data : Half) : s.Continues (lowHalfWrite addr data s) := by
  unfold lowHalfWrite
  split
  · exact (State.Continues.refl s).kept
  · exact (State.Continues.refl s).kept.trans (continues_reportDenial (emptyLatch s) ..)

theorem continues_highHalfWrite (addr data : Half) : s.Continues (highHalfWrite addr data s) := by
  refine ⟨fun h => h.highHalfWrite addr data, ?_, ?_⟩
  all_goals
    unfold highHalfWrite
    split
  · exact raises_waitTurn s .portA
  · exact raises_reportDenial (emptyLatch s) ..
  · exact (continues_waitTurn s .portA).capture
  · exact (continues_reportDenial (emptyLatch s) ..).capture

theorem continues_highHalfRead (addr : Half) : s.Continues (highHalfRead addr s) := by
  unfold highHalfRead
  (repeat' split)
  · exact (State.Continues.refl s).kept
  · exact (continues_waitTurn s .portA).kept
  · exact (State.Continues.refl s).kept.trans (continues_reportDenial (returnHalf 0 s) ..)

theorem raises_lowHalfRead (addr : Half) : s.Raises (lowHalfRead addr s) := by
  unfold lowHalfRead
  split
  · exact raises_waitTurn s .portA
  · exact raises_reportDenial (s.onPortA _) ..

theorem continues_fetchWord (addr : Half) : s.Continues (fetchWord addr s).1 := by
  unfold fetchWord
  (repeat' split)
  · exact continues_waitTurn s .portB
  · exact continues_reportDenial s ..
  · exact .refl s

theorem continues_depositWord (addr : Half) (w : Word) : s.Continues (depositWord addr w s) := by
  have hturn := continues_waitTurn s .portB
  unfold depositWord
  (repeat' split)
  · exact ⟨fun h => (hturn.memory h).storeWord _ _, hturn.raises, hturn.capture⟩
  · exact continues_reportDenial s ..
  · exact .refl s

theorem continues_transferByte (x : Byte) : s.Continues (transferByte s x) := by
  simp only [transferByte, readByte, writeByte]
  (repeat' split)
  · exact .refl s
  · exact (State.Continues.refl s).kept
  · exact (continues_fetchWord s _).kept
  · exact (State.Continues.refl s).kept
  · exact (continues_depositWord s _ _).kept
  · exact (State.Continues.refl s).kept
  · exact (State.Continues.refl s).kept

theorem continues_portBBytes (k : TransferKind) (bytes : List Byte) : s.Continues (portBBytes k bytes s) :=
  portBBytes_inv (p := s.Continues) (fun t x h => h.trans (continues_transferByte t x)) (fun _ _ h => h.kept) k bytes s (.refl s)

theorem continues_arbitrate : s.Continues (arbitrate s) := by
  unfold arbitrate
  split
  · exact .refl s
  · exact ⟨fun h => h.clearAccess _, .of_eq rfl, rfl⟩
  · exact ⟨fun h => h.grantNext, raises_grantNext s, congrArg (·.1.capture) (grantNext_ports s)⟩

/-! ### The clock -/

theorem raises_dwellHandOff (o : Per3 StdOutcome) : s.Raises (dwellHandOff o s) :=
  (((((State.Follows.refl s).giveCondition .standardize _).raise .std).answerStd .ok _).parkDecision _).settle.raises

theorem continues_endDwell : s.Continues (endDwell s) := by
  refine (State.Continues.refl s).event (endDwell_surround s) ?_
  simp only [endDwell]
  (repeat' split)
  · exact .of_eq rfl
  · exact (State.Raises.of_eq (writeZeros_notices ..)).trans (raises_dwellHandOff ..)
  · exact .of_eq rfl

theorem continues_endTimedOut : s.Continues (endTimedOut s) := by
  unfold endTimedOut
  split
  · exact (State.Continues.refl s).event (enterFaulted_surround ..) ((State.Follows.refl s).enterFaulted _).raises
  · exact .refl s

theorem continues_takeExternalBreak : s.Continues (takeExternalBreak s) := by
  unfold takeExternalBreak
  split
  · exact (State.Continues.refl s).event (takeBreak_surround ..) ((State.Follows.refl s).onSheet.takeBreak .external).raises
  · exact .refl s

theorem continues_takeProbeSheetOn : s.Continues (takeProbeSheetOn s) := by
  unfold takeProbeSheetOn
  split
  · exact (State.Continues.refl s).event (declareSheetOn_surround _) (State.Follows.refl s).onSheet.declareSheetOn.raises
  · exact .refl s

theorem continues_takeTickEvents (es : List TickEvent) {t : State} (h : s.Continues t) : s.Continues (es.foldl takeTickEvent t) := by
  induction es generalizing t with
  | nil => exact h
  | cons e es ih =>
    refine ih (h.trans ?_)
    cases e with
    | moveTimeout => exact continues_endTimedOut t
    | dwellEnd => exact continues_endDwell t
    | externalBreak => exact continues_takeExternalBreak t
    | probeSheetOn => exact continues_takeProbeSheetOn t

theorem continues_sheetTick (brkIn sampleFirst : Bool) : s.Continues (sheetTick brkIn sampleFirst s) := by
  refine (State.Continues.refl s).event (sheetTick_surround ..) (.of_eq ?_)
  unfold sheetTick readPoint
  split <;> simp

theorem continues_endHoldoffs : s.Continues (endHoldoffs s) :=
  (State.Continues.refl s).event (endHoldoffs_surround s) (raises_raiseIf (s.onAlarm _) _ .alarm)

theorem continues_cycleStart : s.Continues (cycleStart s) := by
  rw [cycleStart_eq]
  exact (State.Continues.refl s).kept

theorem continues_tickExport : s.Continues (tickExport s) := by
  unfold tickExport
  split
  · exact continues_cycleStart s
  · exact .refl s

theorem continues_startService : s.Continues (startService s) :=
  (State.Continues.refl s).event (startService_surround s) (raises_trimService (s.onOrd _))

theorem continues_requestService : s.Continues (requestService s) := by
  unfold requestService
  split
  · exact continues_startService s
  · exact (State.Continues.refl s).kept

theorem continues_startQueued : s.Continues (startQueued s) := by
  unfold startQueued
  (repeat' split)
  · exact (State.Continues.refl s).kept.trans (continues_startService (s.onOrd _))
  · exact .refl s
  · exact .refl s

theorem continues_serviceTick (brkIn : Bool) (o : TickOrder) : s.Continues (serviceTick brkIn o s) := by
  have hsheet (u : State) (h : s.Continues u) := h.trans (continues_sheetTick u brkIn o.sampleFirst)
  have hexport (u : State) (h : s.Continues u) := h.trans (continues_tickExport u)
  have hcounts : s.Continues (countTick (endHoldoffs s)) := (continues_endHoldoffs s).kept
  have hbefore : s.Continues (tickBefore brkIn o s) := by
    unfold tickBefore
    refine .doIf (continues_takeTickEvents s o.early (.doIf (.doIf hcounts _ hsheet) _ fun u h => ?_)) _ hexport
    exact h.kept.trans (continues_endHoldoffs (holdoffTick u))
  have hafter {u : State} (h : s.Continues u) : s.Continues (tickAfter brkIn o u) := by
    unfold tickAfter
    refine ((State.Continues.doIf (.doIf (.doIf h _ hsheet) _ fun _ h => ?_) _ hexport).trans (continues_requestService _)).kept
    exact h.kept
  exact hafter hbefore.kept

theorem continues_endHoldoff (k : AlarmKind) : s.Continues (endHoldoff k s) := by
  unfold endHoldoff
  split
  · exact (State.Continues.refl s).event (moveEntry_surround ..) (raises_raiseIf (s.onAlarm _) _ .alarm)
  · exact .refl s

theorem continues_frameStart : s.Continues (frameStart s) := by
  unfold frameStart
  (repeat' split)
  · exact .refl s
  · exact (State.Continues.refl s).kept
  · exact .refl s

theorem continues_frameEnd : s.Continues (frameEnd s) := by
  unfold frameEnd
  (repeat' split)
  · exact (State.Continues.refl s).kept
  · exact (State.Continues.refl s).kept
  · exact continues_cycleStart s
  · exact continues_cycleStart s
  · exact .refl s

/-! ### Samples and the frame's lines -/

theorem continues_completeTransfer (f : HeadFrame) : s.Continues (completeTransfer f s) := by
  unfold completeTransfer
  split
  · exact .refl s
  · exact (State.Continues.refl s).kept.event (u := giveCondition .headLink _ (s.onLinks _)) (giveCondition_surround ..)
      (raises_giveCondition ..)

theorem continues_formRecord (c : Capture) : s.Continues (formRecord c s) :=
  have hrest := formRecord_rest c s
  (State.Continues.refl s).kept (congrArg State.mem hrest :) (congrArg State.notices hrest :)
    (congrArg (fun u : State => u.portA.capture) hrest :)

theorem continues_takeSampleBreak : s.Continues (takeSampleBreak s) := by
  refine (State.Continues.refl s).event (takeSampleBreak_surround s) ?_
  simp only [takeSampleBreak]
  split
  · exact .of_eq rfl
  · exact ((State.Follows.refl s).onSheet.takeBreak .sample).raises

theorem continues_enterFaulted (cause : FaultCause) : s.Continues (enterFaulted cause s) :=
  (State.Continues.refl s).event (enterFaulted_surround ..) ((State.Follows.refl s).enterFaulted cause).raises

/-- A position event brings arrivals and faults. -/
theorem follows_positionEvent {t : State} (h : s.Follows 0 t) (b : Beam) : s.Follows 0 (positionEvent b t) := by
  have hhold {u : State} (hu : s.Follows 0 u) : s.Follows 0 (skewHold u) := by
    simp only [skewHold]
    (repeat' split)
    · exact hu
    · exact hu.onCar
    · exact hu.enterFaulted _
    · exact hu.onCar
    · exact hu
    · exact hu
  have harrive : s.Follows 0 (arrive b t) := by
    unfold arrive
    (repeat' split)
    · exact h
    · exact h.onCar
    · exact h
  have hover : s.Follows 0 (if moveOver (arrive b t) then settle (arrive b t) else arrive b t) := by
    split
    · exact harrive.settle
    · exact harrive
  unfold positionEvent
  (repeat' split)
  · exact h.enterFaulted _
  · exact hhold hover
  · exact h

theorem continues_encoderEdge (b : Beam) (d : Direction) : s.Continues (encoderEdge b d s) := by
  refine (State.Continues.refl s).event (encoderEdge_surround ..) ?_
  unfold encoderEdge
  extract_lets a moved t
  have ht : s.Follows 0 t := (State.Follows.refl s).onCar
  split
  · exact (follows_positionEvent s ht b).raises
  · exact ht.raises

theorem continues_zeroSeeking (b : Beam) : s.Continues (zeroSeeking b s) :=
  have hzeroed : s.Follows 0 (zeroAxis b s) := (State.Follows.refl s).onCar
  (State.Continues.refl s).event (zeroSeeking_surround ..) hzeroed.onCar.settle.raises

theorem continues_homeLine (b : Beam) (active : Bool) : s.Continues (homeLine b active s) := by
  simp only [homeLine]
  refine .whenReleased (State.Continues.refl s).kept ?_
  split
  · exact continues_zeroSeeking ..
  · exact .refl _

theorem continues_limitLine (b : Beam) (l : Limit) (asserted : Bool) : s.Continues (limitLine b l asserted s) := by
  simp only [limitLine]
  refine .whenReleased (State.Continues.refl s).kept ?_
  split
  · exact continues_enterFaulted ..
  · exact .refl _

theorem continues_frameOkLine (low : Bool) : s.Continues (frameOkLine low s) := by
  simp only [frameOkLine]
  refine .whenReleased (State.Continues.refl s).kept ?_
  split
  · exact continues_enterFaulted ..
  · exact .refl _

theorem continues_drvOkLine (b : Beam) (low : Bool) : s.Continues (drvOkLine b low s) := by
  simp only [drvOkLine]
  refine .whenReleased (State.Continues.refl s).kept ?_
  split
  · exact continues_enterFaulted ..
  · exact .refl _

/-! ### The start-up and the soft reset -/

theorem continues_beginClear : s.Continues (beginClear s) := by
  unfold beginClear
  split
  · exact (State.Continues.refl s).kept
  · exact .refl s

theorem continues_endClear : s.Continues (endClear s) := by
  unfold endClear
  split
  · exact ⟨fun _ => rfl, .of_eq rfl, rfl⟩
  · exact .refl s

theorem State.MemOk.grantPageWrite {s : State} (h : s.MemOk) : (Machine.grantPageWrite s).MemOk := by
  cases hp : s.prof.publication with
  | none => rwa [grantPageWrite_idle hp]
  | some p => exact (h.storeWord p.wordIdx p.word).of_eq (grantPageWrite_mem hp)

/-- The cards of a soft reset raise CARD; its blocks raise theirs (R213). -/
theorem raises_softReset (value : Half) : s.Raises (softResetBlocks (grantPageWrite (softResetOrders (withMask value s)))) := by
  have hcards : s.Raises (softResetOrders (withMask value s)) :=
    softAnswers_inv (p := s.Raises) (fun _ _ h => h.trans ⟨Notice.card.bit, rfl⟩) _ _ (.of_eq rfl)
  exact (hcards.trans (raises_grantPageWrite _)).trans (raises_softResetBlocks _)

end

/-! ### Every command -/

/-- Outside the resets, the NOTICE write and the low-half read. -/
theorem exec_continues {c : Instr} {s t : State} (hpin : c ≠ .pinReset) (hsoft : ∀ v, c ≠ .softReset v)
    (hnotice : ∀ v, c ≠ .noticeClear v) (hread : ∀ a, c ≠ .portALowHalfRead a) (h : exec c s = .next t) : s.Continues t := by
  have running {f : State → State} (hf : s.Continues (f s)) : s.Continues (whenRunning s f) := .whenRunning hf
  cases c with
  | pinReset => exact absurd rfl hpin
  | softReset v => exact absurd rfl (hsoft v)
  | noticeClear v => exact absurd rfl (hnotice v)
  | portALowHalfRead addr => exact absurd rfl (hread addr)
  | startUpClear => exact .of_done (continues_beginClear s) h
  | startUpClearEnd => exact .of_done (continues_endClear s) h
  | setNoticeMask value => exact .of_done (running (f := withMask value) (State.Continues.refl s).kept) h
  | nudge high value => exact .of_done (running (continues_requestService s)) h
  | registerWriteIgnored target value => exact .of_done (.refl s) h
  | portALowHalfWrite addr data => exact .of_done (.portPhase (.refl s) (continues_lowHalfWrite s addr data)) h
  | portAHighHalfWrite addr data => exact .of_done (.portPhase (.refl s) (continues_highHalfWrite s addr data)) h
  | portAHighHalfRead addr =>
    exact .of_done (.portPhase (f := returnHalf 0) (State.Continues.refl s).kept (continues_highHalfRead s addr)) h
  | portBRead bytes => exact .of_done (continues_portBBytes s .read bytes) h
  | portBWrite bytes => exact .of_done (continues_portBBytes s .write bytes) h
  | portBOtherCommand command bytes => exact .of_done (continues_portBBytes s .other bytes) h
  | portBTransferEnd => exact .of_done (State.Continues.kept (u := s.onPortB _) (.refl s)) h
  | arbiterGrant => exact .of_done (continues_arbitrate s) h
  | serviceTick brkIn o => exact .of_done (running (continues_serviceTick s brkIn o)) h
  | queuedCardService => exact .of_done (running (continues_startQueued s)) h
  | sampleStrobe => exact .of_done (running (f := strobe) (State.Continues.refl s).kept) h
  | headLinkTransferComplete f => exact .of_done (running (continues_completeTransfer s f)) h
  | formSampleRecord =>
    refine .of_done (running ?_) h
    split
    · exact .refl s
    · exact continues_formRecord s _
  | recordTaken =>
    refine .of_done (running ?_) h
    split
    · exact .refl s
    · exact (State.Continues.refl s).kept
  | sampleBreak =>
    refine .of_done (running ?_) h
    split
    · exact continues_takeSampleBreak s
    · exact .refl s
  | externalBreak => exact .of_done (running (continues_takeExternalBreak s)) h
  | probeSheetOn => exact .of_done (running (continues_takeProbeSheetOn s)) h
  | quadratureEdge b d => exact .of_done (.whenReleased (.refl s) (continues_encoderEdge s b d)) h
  | moveTimeout => exact .of_done (running (continues_endTimedOut s)) h
  | homeSwitch b active => exact .of_done (continues_homeLine s b active) h
  | limitSwitch b l asserted => exact .of_done (continues_limitLine s b l asserted) h
  | frameOkLow low => exact .of_done (continues_frameOkLine s low) h
  | drvOkLow b low => exact .of_done (continues_drvOkLine s b low) h
  | dwellEnd => exact .of_done (running (continues_endDwell s)) h
  | holdoffEnd k => exact .of_done (running (continues_endHoldoff s k)) h
  | flashHalf => exact .of_done (running (State.Continues.kept (u := s.onAlarm _) (.refl s))) h
  | hornHalfPeriod =>
    refine .of_done (running ?_) h
    split
    · exact (State.Continues.refl s).kept
    · exact .refl s
  | exportFrameStart => exact .of_done (running (continues_frameStart s)) h
  | exportFrameEnd => exact .of_done (running (continues_frameEnd s)) h
  | publicationComplete =>
    refine .of_done (running ?_) h
    split
    · exact (continues_waitTurn s .profileEngine).trans (continues_grantTo _ .profileEngine)
    · exact .refl s
  | setFrame slot | home slot | scan slot | stopEnd slot | stopNow slot | moveTo slot | park slot | setTimebase slot | setCal slot
  | setProfile slot | reseed slot | standardize slot | setStd slot | setSheet slot | resume slot | setAlarm slot | ackAlarms slot
  | silenceHorn slot | setHorn slot | setExport slot | setGuard slot | clearGuardFault slot =>
    exact .of_done (continues_deliver s slot _) h

/-- Every command keeps the canonical form of the memory. -/
theorem exec_memOk {c : Instr} {s t : State} (hs : s.MemOk) (h : exec c s = .next t) : t.MemOk := by
  have of_done {u : State} (hu : u.MemOk) (hd : done u = .next t) : t.MemOk := by
    obtain rfl : driveLines u = t := Host.Outcome.next.inj hd
    exact hu
  by_cases hpin : c = .pinReset
  · subst hpin
    exact of_done (u := pinReset s) hs h
  by_cases hsoft : ∃ v, c = .softReset v
  · obtain ⟨v, rfl⟩ := hsoft
    have hmask : (withMask v s).MemOk := hs
    exact of_done (whenRunning_inv hs fun _ => hmask.softResetOrders.grantPageWrite.of_eq (softResetBlocks_mem _)) h
  by_cases hnotice : ∃ v, c = .noticeClear v
  · obtain ⟨v, rfl⟩ := hnotice
    exact of_done (whenRunning_inv hs id) h
  by_cases hread : ∃ a, c = .portALowHalfRead a
  · obtain ⟨a, rfl⟩ := hread
    exact of_done (portPhase_inv hs id fun h => h.lowHalfRead a) h
  exact (exec_continues hpin (fun v e => hsoft ⟨v, e⟩) (fun v e => hnotice ⟨v, e⟩) (fun a e => hread ⟨a, e⟩) h).memory hs

/-- Settles O4: an empty queue changes nothing, and the command at its front keeps the form (`exec_memOk`). -/
theorem memoryStaysCanonical : Obligations.MemoryStaysCanonical := by
  unfold Obligations.MemoryStaysCanonical
  intro s t hs h
  unfold step at h
  split at h
  · obtain rfl : s = t := Host.Outcome.next.inj h
    exact hs
  · next c rest _ => exact exec_memOk (s := { s with pending := rest }) hs h

/-- Clearing other notices leaves a notice as it stands. -/
theorem and_not_and_of_and_eq_zero {x v b : BitVec 7} (h : v &&& b = 0) : x &&& ~~~v &&& b = x &&& b := by
  refine BitVec.eq_of_getLsbD_eq fun i hi => ?_
  have hbit := congrArg (fun y : BitVec 7 => y.getLsbD i) h
  simp only [BitVec.getLsbD_and, BitVec.getLsbD_not] at hbit ⊢
  revert hbit
  cases v.getLsbD i <;> cases b.getLsbD i <;> simp [hi]

/-- Settles O12: every command raises notices and clears none (`exec_continues`), but for a pin reset and the host's NOTICE write, which
leaves the flags whose bits are 0. -/
theorem noticesFallOnlyToTheHost : Obligations.NoticesFallOnlyToTheHost := by
  unfold Obligations.NoticesFallOnlyToTheHost
  intro c s t n h hset hpin hclear
  have stands {u : State} (hu : s.Raises u) (hd : done u = .next t) : t.notices &&& n.bit ≠ 0 := by
    obtain rfl : driveLines u = t := Host.Outcome.next.inj hd
    exact hu.stands hset
  by_cases hsoft : ∃ v, c = .softReset v
  · obtain ⟨v, rfl⟩ := hsoft
    exact stands (whenRunning_inv (p := s.Raises) (.of_eq rfl) fun _ => raises_softReset s v) h
  by_cases hread : ∃ a, c = .portALowHalfRead a
  · obtain ⟨a, rfl⟩ := hread
    exact stands (portPhase_inv (p := s.Raises) (.of_eq rfl) (fun _ => .of_eq rfl) fun _ => raises_lowHalfRead s a) h
  by_cases hnotice : ∃ v, c = .noticeClear v
  · obtain ⟨v, rfl⟩ := hnotice
    obtain rfl : driveLines (whenRunning s fun s => s.withNotices (s.notices &&& ~~~(v.setWidth 7))) = t := Host.Outcome.next.inj h
    refine whenRunning_inv (p := fun u => (driveLines u).notices &&& n.bit ≠ 0) hset fun _ => ?_
    rw [driveLines_notices, State.withNotices_notices, and_not_and_of_and_eq_zero (hclear v rfl)]
    exact hset
  exact (exec_continues hpin (fun v e => hsoft ⟨v, e⟩) (fun v e => hnotice ⟨v, e⟩) (fun a e => hread ⟨a, e⟩) h).raises.stands hset

/-- Settles O17: of the commands left (`exec_continues`) a NOTICE write does not touch the ports. -/
theorem captureOutlivesEveryWriter : Obligations.CaptureOutlivesEveryWriter := by
  unfold Obligations.CaptureOutlivesEveryWriter
  intro c s t h hread hsoft hpin
  by_cases hnotice : ∃ v, c = .noticeClear v
  · obtain ⟨v, rfl⟩ := hnotice
    obtain rfl : driveLines (whenRunning s fun s => s.withNotices (s.notices &&& ~~~(v.setWidth 7))) = t := Host.Outcome.next.inj h
    exact whenRunning_inv (p := fun u => (driveLines u).portA.capture = s.portA.capture) rfl fun _ => rfl
  exact (exec_continues hpin hsoft (fun v e => hnotice ⟨v, e⟩) hread h).capture

end Sys2Proof.Machine
end

section
/-! PROOFS. Chapter 11, the guard and port A: the guard's decision (O14), what a denied access leaves, and port A's writes (O15) and reads
(O16). -/

namespace Sys2Proof.Machine

open Sys2Proof

/-! ## The guard's decision (R202) -/

theorem GuardRange.covers_iff {r : GuardRange} {a : Nat} : r.covers a = true ↔ r.enabled = true ∧ r.start ≤ a ∧ a ≤ r.last := by
  simp [GuardRange.covers, and_assoc]

/-- A covering range grants, or there is none and the uncovered policy is ALLOW. -/
theorem permits_iff {g : AccessGuard} {p : Port} {k : AccessKind} {a : Nat} : permits g p k a = true ↔
    (∃ r ∈ g.ranges.toList, r.covers a = true ∧ r.perms.grants p k = true) ∨
      (∀ r ∈ g.ranges.toList, r.covers a = false) ∧ g.deny = false := by
  simp only [permits]
  split
  · next hnone =>
    have hcovers : ∀ r ∈ g.ranges.toList, r.covers a = false := by simpa using hnone
    have hgrants : ¬∃ r ∈ g.ranges.toList, r.covers a = true ∧ r.perms.grants p k = true := by
      rintro ⟨r, hr, hc, _⟩
      simp [hcovers r hr] at hc
    rw [or_iff_right hgrants, and_iff_right hcovers, Bool.not_eq_true']
  · next hsome =>
    have hcovers : ¬∀ r ∈ g.ranges.toList, r.covers a = false := by simpa using hsome
    simp only [hcovers, false_and, or_false, List.any_eq_true, List.mem_filter, and_assoc]

/-- Settles O14: the ranges are read one by one (`permits_iff`). -/
theorem guardGrantsByRangesThenPolicy : Obligations.GuardGrantsByRangesThenPolicy := by
  unfold Obligations.GuardGrantsByRangesThenPolicy
  intro g p k a bit
  have hbit (q : Permissions) : q.grants p k = bit q := by cases p <;> cases k <;> rfl
  have hrange {x : GuardRange → Prop} : (∃ r ∈ g.ranges.toList, x r) ↔ ∃ i : Fin 8, x g.ranges[i] := by
    simp [Vector.mem_iff_getElem, Fin.exists_iff]
  have huncovered (r : GuardRange) : r.covers a = false ↔ r.enabled = true → a < r.start ∨ r.last < a := by
    rw [← Bool.not_eq_true, GuardRange.covers_iff, not_and, not_and_or, not_le, not_le]
  have hnone : (∀ r ∈ g.ranges.toList, r.covers a = false) ↔ ∀ i : Fin 8, g.ranges[i].covers a = false := by
    simpa using not_congr (hrange (x := fun r => r.covers a = true))
  rw [permits_iff, hrange, hnone]
  simp only [GuardRange.covers_iff, huncovered, hbit, and_assoc]

/-! ## A denied access (R204) -/

theorem reportDenial_latches {s : State} (h : s.guard.fault = none) (port : Port) (kind : AccessKind) (addr : Half) :
    reportDenial port kind addr s =
      giveCondition .access true ((s.onGuard fun g => { g with fault := some ⟨port, kind, addr, false⟩ }).raise .guard) := by
  simp only [reportDenial, h]

theorem reportDenial_marks {s : State} {r : FaultRecord} (h : s.guard.fault = some r) (port : Port) (kind : AccessKind) (addr : Half) :
    reportDenial port kind addr s = s.onGuard fun g => { g with fault := some { r with multiple := true } } := by
  simp only [reportDenial, h]

theorem State.raiseIf_onPortB (s : State) (c : Bool) (n : Notice) (f : PortB → PortB) :
    (s.raiseIf c n).onPortB f = (s.onPortB f).raiseIf c n := by
  cases c <;> rfl

/-- The report looks at no port. -/
theorem reportDenial_onPortB (port : Port) (kind : AccessKind) (addr : Half) (f : PortB → PortB) (s : State) :
    (reportDenial port kind addr s).onPortB f = reportDenial port kind addr (s.onPortB f) := by
  cases h : s.guard.fault with
  | none =>
    rw [reportDenial_latches h, reportDenial_latches (s := s.onPortB f) h]
    exact (State.raiseIf_onPortB ..).trans rfl
  | some r => rw [reportDenial_marks h, reportDenial_marks (s := s.onPortB f) h]; rfl

theorem notice_bits_apart {n m : Notice} (h : n ≠ m) : n.bit &&& m.bit = 0#7 := by
  revert h
  cases n <;> cases m <;> decide

theorem or_bit_and_bit_of_ne {n m : Notice} (h : n ≠ m) (v : BitVec 7) : (v ||| n.bit) &&& m.bit = v &&& m.bit := by
  refine BitVec.eq_of_getLsbD_eq fun i _ => ?_
  have hbit := congrArg (fun y : BitVec 7 => y.getLsbD i) (notice_bits_apart h)
  simp only [BitVec.getLsbD_and, BitVec.getLsbD_or, BitVec.getLsbD_zero] at hbit ⊢
  rw [Bool.and_or_distrib_right, hbit, Bool.or_false]

/-- A condition given raises no notice but ALARM. -/
theorem giveCondition_notices_of_ne {n : Notice} (h : n ≠ .alarm) (k : AlarmKind) (present : Bool) (s : State) :
    (giveCondition k present s).notices &&& n.bit = s.notices &&& n.bit := by
  rw [giveCondition, moveEntry_notices]
  split
  · rfl
  · exact or_bit_and_bit_of_ne h.symm _

section
variable {s : State} (h : Settled s) (g : AccessGuard) (al : AlarmUnit) (nt : BitVec 7) (a : PortA) (b : PortB)
include h

/-- The lines of the drives and of the frames that leave the part look at neither the guard, the alarms, the notices nor the ports. -/
theorem Settled.drives_of_report : let t := driveLines { s with guard := g, alarm := al, notices := nt, portA := a, portB := b }
    t.pins.run = s.pins.run ∧ t.pins.creep = s.pins.creep ∧ t.pins.dir = s.pins.dir ∧ t.pins.xfrm = s.pins.xfrm := by
  have hpins : (driveLines s).pins = s.pins := h.pins.symm
  exact ⟨(congrArg Pins.run hpins :), (congrArg Pins.creep hpins :), (congrArg Pins.dir hpins :), (congrArg Pins.xfrm hpins :)⟩

end

/-- What the report of a denied access leaves, whatever the access has made of the ports. -/
theorem denied_reportDenial {s : State} (h : Settled s) (port : Port) (kind : AccessKind) (addr : Half) (a : PortA) (b : PortB) :
    Denied s (driveLines (reportDenial port kind addr { s with portA := a, portB := b })) port kind addr := by
  cases hf : s.guard.fault with
  | none =>
    rw [reportDenial_latches (s := { s with portA := a, portB := b }) hf]
    set g : AccessGuard := { s.guard with fault := some ⟨port, kind, addr, false⟩ }
    set v : State := { s with guard := g, notices := s.notices ||| Notice.guard.bit, portA := a, portB := b } with hv
    change Denied s (driveLines (giveCondition .access true v)) port kind addr
    have hgiven := giveCondition_given .access true v
    have hw : giveCondition .access true v = { s with
        guard := g
        alarm := (giveCondition .access true v).alarm
        notices := (giveCondition .access true v).notices
        portA := a
        portB := b } :=
      congrArg (fun u : State => { u with
        alarm := (giveCondition .access true v).alarm
        notices := (giveCondition .access true v).notices }) (giveCondition_rest .access true v)
    have hguard : (giveCondition .access true v).notices &&& Notice.guard.bit ≠ 0 :=
      (raises_giveCondition .access true v).stands (or_bit_and_bit_ne s.notices .guard)
    have hgiven' : ConditionGiven s (driveLines (giveCondition .access true v)) .access true := { hgiven with
      unchanged := fun he => (hgiven.unchanged he).trans (or_bit_and_bit_of_ne (by decide) s.notices) }
    refine ⟨fun _ => ⟨by rw [hw]; rfl, hguard, hgiven'⟩, fun r hr => absurd (hf.symm.trans hr) nofun,
      fun k hk => hgiven.others k (by simpa using hk), fun n hg ha => ?notices, ?drives, ?rest⟩
    case notices =>
      rw [driveLines_notices, giveCondition_notices_of_ne ha]
      exact or_bit_and_bit_of_ne hg.symm s.notices
    case drives =>
      rw [hw]
      exact h.drives_of_report ..
    case rest =>
      rw [hw]
      rfl
  | some r =>
    rw [reportDenial_marks (s := { s with portA := a, portB := b }) hf]
    have halarm : (driveLines s).alarm = s.alarm := congrArg State.alarm h
    have hpins : (driveLines s).pins = s.pins := h.pins.symm
    refine ⟨fun hnone => absurd (hnone.symm.trans hf) nofun, fun r' hr => ?_, fun _ _ => rfl, fun _ _ _ => rfl,
      h.drives_of_report { s.guard with fault := some { r with multiple := true } } s.alarm s.notices a b, rfl⟩
    obtain rfl : r = r' := Option.some.inj (hf.symm.trans hr)
    exact ⟨rfl, rfl, halarm, hpins⟩

/-! ## Port A (R194 to R196) -/

theorem portPhase_running {s : State} (hrun : s.phase = .running) (f g : State → State) : portPhase s f g = g s := by
  simp only [portPhase, hrun]

/-- No line looks at the ports. -/
theorem Settled.onPortA {s : State} (h : Settled s) (f : PortA → PortA) : driveLines (s.onPortA f) = s.onPortA f :=
  h.update (fun t => t.onPortA f) rfl

/-- A port A access while the part serves. -/
theorem done_portPhase {s : State} (hrun : s.phase = .running) (f g : State → State) :
    done (portPhase s f g) = .next (driveLines (g s)) :=
  congrArg done (portPhase_running hrun f g)

/-- What a denied port A access makes of its port, and what its report leaves. -/
theorem denied_onPortA {s : State} (h : Settled s) (kind : AccessKind) (addr : Half) (f : PortA → PortA) :
    let t := driveLines (reportDenial .a kind addr (s.onPortA f))
    t.portA = f s.portA ∧ t.portB = s.portB ∧ Denied s t .a kind addr :=
  have hports := reportDenial_ports (s.onPortA f) .a kind addr
  ⟨congrArg Prod.fst hports, congrArg Prod.snd hports, denied_reportDenial h .a kind addr (f s.portA) s.portB⟩

section
variable (w : WordIdx) (data : Half) (m : Memory)

theorem highHalfStore_latched (low : Half) : highHalfStore (some (w, low)) w data m = m.writeWord w (joinHalves low data) := by
  simp only [highHalfStore, if_true]

theorem highHalfStore_unlatched {latch : Option (WordIdx × Half)} (h : ∀ low, latch ≠ some (w, low)) :
    highHalfStore latch w data m = m.writeHalf (wordAddr w + 2) data := by
  unfold highHalfStore
  split
  · next l low => exact if_neg fun he => h low (by rw [he])
  · rfl

theorem lowHalf_joinHalves (lo hi : Half) : lowHalf (joinHalves lo hi) = lo := by
  refine BitVec.eq_of_getLsbD_eq fun i hi => ?_
  simp only [lowHalf, joinHalves, BitVec.getLsbD_extractLsb', BitVec.getLsbD_append, hi, Nat.zero_add, decide_true,
    Bool.true_and, if_true]

/-- A high half stored alone leaves the word's low half. -/
theorem readWord_writeHalf_high (h : m.wf = true) :
    (m.writeHalf (wordAddr w + 2) data).readWord w = joinHalves (lowHalf (m.readWord w)) data := by
  have hlt := wordAddr_lt w
  rw [Memory.readWord, Memory.readHalf_writeHalf _ h (by omega), Memory.readHalf_writeHalf_other _ h (by omega) (by omega),
    Memory.readWord, lowHalf_joinHalves]

/-- A high-half store changes no byte outside its word. -/
theorem read_highHalfStore_outside (latch : Option (WordIdx × Half)) (h : m.wf = true) {a : Nat} (ha : ¬inWord w a) :
    (highHalfStore latch w data m).read a = m.read a := by
  have hlt := wordAddr_lt w
  unfold inWord at ha
  unfold highHalfStore
  (repeat' split)
  · exact Memory.read_writeWord_other _ h (by omega)
  · exact Memory.read_writeHalf_other _ h (by omega) (by omega) (by omega)
  · exact Memory.read_writeHalf_other _ h (by omega) (by omega) (by omega)

end

section
variable {s : State} {addr : Half}

theorem lowHalfWrite_granted (h : permits s.guard .a .write (lowAddr addr).toNat = true) (data : Half) :
    lowHalfWrite addr data s = s.onPortA fun a => { a with latch := some (portWord addr, data) } :=
  if_pos h

theorem lowHalfWrite_denied (h : permits s.guard .a .write (lowAddr addr).toNat = false) (data : Half) :
    lowHalfWrite addr data s = reportDenial .a .write (lowAddr addr) (s.onPortA fun a => { a with latch := none }) :=
  if_neg (Bool.eq_false_iff.1 h)

theorem highHalfWrite_granted (h : permits s.guard .a .write (highAddr addr).toNat = true) (data : Half) :
    highHalfWrite addr data s = emptyLatch ((waitTurn .portA s).onMem (highHalfStore s.portA.latch (portWord addr) data)) :=
  if_pos h

theorem highHalfWrite_denied (h : permits s.guard .a .write (highAddr addr).toNat = false) (data : Half) :
    highHalfWrite addr data s = reportDenial .a .write (highAddr addr) (s.onPortA fun a => { a with latch := none }) :=
  if_neg (Bool.eq_false_iff.1 h)

theorem lowHalfRead_granted (h : permits s.guard .a .read (lowAddr addr).toNat = true) : lowHalfRead addr s =
    let v := (waitTurn .portA s).mem.readWord (portWord addr)
    (waitTurn .portA s).onPortA fun a => { a with capture := some (portWord addr, v), data := lowHalf v } :=
  if_pos h

theorem lowHalfRead_denied (h : permits s.guard .a .read (lowAddr addr).toNat = false) :
    lowHalfRead addr s = reportDenial .a .read (lowAddr addr) (s.onPortA fun a => { a with capture := none, data := 0 }) :=
  if_neg (Bool.eq_false_iff.1 h)

theorem highHalfRead_captured (h : permits s.guard .a .read (highAddr addr).toNat = true) {v : Word}
    (hv : captured s.portA.capture (portWord addr) = some v) : highHalfRead addr s = returnHalf (highHalf v) s := by
  rw [highHalfRead, if_pos h, hv]

theorem highHalfRead_fresh (h : permits s.guard .a .read (highAddr addr).toNat = true)
    (hv : captured s.portA.capture (portWord addr) = none) : highHalfRead addr s =
      returnHalf (highHalf ((waitTurn .portA s).mem.readWord (portWord addr))) (waitTurn .portA s) := by
  rw [highHalfRead, if_pos h, hv]

theorem highHalfRead_denied (h : permits s.guard .a .read (highAddr addr).toNat = false) :
    highHalfRead addr s = reportDenial .a .read (highAddr addr) (s.onPortA fun a => { a with data := 0 }) :=
  if_neg (Bool.eq_false_iff.1 h)

end

/-- Settles O15: a granted low half is latched, a granted high half stored (`highHalfStore`); a denied one leaves the report
(`denied_onPortA`). -/
theorem portAWritesThroughTheLatch : Obligations.PortAWritesThroughTheLatch := by
  unfold Obligations.PortAWritesThroughTheLatch
  refine ⟨fun s addr data h hrun => ?low, fun s addr data h => ?high⟩
  case low =>
    intro low
    have hexec : exec (.portALowHalfWrite addr data) s = .next (driveLines (lowHalfWrite addr data s)) := done_portPhase hrun id _
    refine ⟨fun hp => ?_, fun hp => ⟨_, hexec, ?_⟩⟩
    · rw [hexec, lowHalfWrite_granted hp]
      exact congrArg _ (h.onPortA _)
    · rw [lowHalfWrite_denied hp]
      exact denied_onPortA h .write low _
  case high =>
    intro w high u
    have hexec : exec (.portAHighHalfWrite addr data) s = .next (driveLines (highHalfWrite addr data s)) :=
      done_portPhase h.running id _
    refine ⟨fun hp => ⟨_, hexec, ?_⟩, fun hp => ⟨_, hexec, ?_⟩⟩
    · rw [highHalfWrite_granted hp]
      have hmem : u.mem.wf = true := State.MemOk.waitTurn h.memory .portA
      refine ⟨fun low hl => ?latched, fun hl => ?alone, fun a ha => read_highHalfStore_outside w data u.mem _ hmem ha, ?port, rfl⟩
      case latched =>
        change (highHalfStore s.portA.latch w data u.mem).readWord w = _
        rw [hl, highHalfStore_latched]
        exact Memory.readWord_writeWord _ _ hmem
      case alone =>
        change (highHalfStore s.portA.latch w data u.mem).readWord w = _
        rw [highHalfStore_unlatched _ _ _ hl]
        exact readWord_writeHalf_high _ _ _ hmem
      case port => exact congrArg (fun p : PortA => { p with latch := none }) (waitTurn_portA s .portA)
    · rw [highHalfWrite_denied hp]
      exact denied_onPortA h.settled .write high _

theorem captured_eq_some_iff {c : Option (WordIdx × Word)} {w : WordIdx} {v : Word} : captured c w = some v ↔ c = some (w, v) := by
  unfold captured
  split
  · simp
  · split <;> simp_all

/-- Settles O16: each half's read by the guard's decision, the high half's by the capture. -/
theorem portAReadsThroughTheCapture : Obligations.PortAReadsThroughTheCapture := by
  unfold Obligations.PortAReadsThroughTheCapture
  intro s addr h hrun w low high u
  have hlow : exec (.portALowHalfRead addr) s = .next (driveLines (lowHalfRead addr s)) := done_portPhase hrun _ _
  have hhigh : exec (.portAHighHalfRead addr) s = .next (driveLines (highHalfRead addr s)) := done_portPhase hrun _ _
  have hport : u.portA = s.portA := waitTurn_portA s .portA
  refine ⟨fun hp => ⟨_, hlow, ?_⟩, fun hp => ⟨_, hlow, ?_⟩, fun hp => ⟨fun v hv => ?_, fun hv => ⟨_, hhigh, ?_⟩⟩,
    fun hp => ⟨_, hhigh, ?_⟩⟩
  · rw [lowHalfRead_granted hp]
    exact ⟨congrArg (fun p : PortA => { p with capture := some (w, u.mem.readWord w), data := lowHalf (u.mem.readWord w) }) hport, rfl⟩
  · rw [lowHalfRead_denied hp]
    exact denied_onPortA h .read low _
  · rw [hhigh, highHalfRead_captured hp (captured_eq_some_iff.2 hv)]
    exact congrArg _ (h.onPortA _)
  · have hnone : captured s.portA.capture (portWord addr) = none :=
      Option.eq_none_iff_forall_ne_some.2 fun v hc => hv v (captured_eq_some_iff.1 hc)
    rw [highHalfRead_fresh hp hnone]
    exact ⟨congrArg (fun p : PortA => { p with data := highHalf (u.mem.readWord w) }) hport, rfl⟩
  · rw [highHalfRead_denied hp]
    exact denied_onPortA h .read high _

end Sys2Proof.Machine
end

section
/-! PROOFS. Chapter 11, the arbiter's ring: what a grant does with one, several and no requester waiting (O21). -/

namespace Sys2Proof.Machine

open Sys2Proof

/-! ## The ring (R193) -/

theorem mem_ringAfter (last r : Requester) : r ∈ ringAfter last := by
  cases last <;> cases r <;> decide

/-- The arbiter goes round the ring in the order of the distances. -/
theorem ringAfter_pairwise (last : Requester) :
    (ringAfter last).Pairwise fun q r => ringDistance last q < ringDistance last r := by
  cases last <;> decide

/-- The first of the ring for which `p` holds is the nearest one. -/
theorem find?_ringAfter_nearest {p : Requester → Bool} {last r : Requester} (hr : p r = true)
    (hnearest : ∀ q, p q = true → ringDistance last r ≤ ringDistance last q) : (ringAfter last).find? p = some r := by
  obtain ⟨before, after, hring⟩ := List.append_of_mem (mem_ringAfter last r)
  refine List.find?_eq_some_iff_append.2 ⟨hr, before, after, hring, fun q hq => ?_⟩
  have hpairs := ringAfter_pairwise last
  rw [hring, List.pairwise_append] at hpairs
  have hcloser : ringDistance last q < ringDistance last r := hpairs.2.2 q hq r List.mem_cons_self
  have hnot : ¬p q = true := fun hp => absurd (hnearest q hp) (Nat.not_le.2 hcloser)
  simpa using hnot

/-- The nearest waiting requester is granted. -/
theorem grantNext_nearest {s : State} {r : Requester} (hr : waits s r = true)
    (hnearest : ∀ q, waits s q = true → ringDistance s.arbLast r ≤ ringDistance s.arbLast q) : grantNext s = grantTo r s := by
  rw [grantNext, find?_ringAfter_nearest hr hnearest]

/-- With none waiting nothing is granted. -/
theorem grantNext_idle {s : State} (h : Idle s) : grantNext s = s := by
  have hnone : (ringAfter s.arbLast).find? (waits s) = none := List.find?_eq_none.2 fun r _ => by simp [h r]
  rw [grantNext, hnone]

theorem exec_arbiterGrant_running {s : State} (hrun : s.phase = .running) : exec .arbiterGrant s = .next (driveLines (grantNext s)) := by
  have harbitrate : arbitrate s = grantNext s := by simp only [arbitrate, hrun]
  exact congrArg done harbitrate

/-- Settles O21: the search round the ring meets the nearest waiting requester first (`find?_ringAfter_nearest`). -/
theorem arbiterGrantsInRingOrder : Obligations.ArbiterGrantsInRingOrder := by
  unfold Obligations.ArbiterGrantsInRingOrder
  intro s r h hrun
  rw [exec_arbiterGrant_running hrun]
  refine ⟨fun hidle => ⟨?_, waitTurn_idle r hidle⟩, fun hr hnearest => by rw [grantNext_nearest hr hnearest]; rfl⟩
  rw [grantNext_idle hidle, h]

end Sys2Proof.Machine
end

section
/-! PROOFS. Chapter 11, port B (R197): what a transfer's bytes do, READ (O19), WRITE and the other transfers (O20), and where the ports'
commands change memory (O18). -/

namespace Sys2Proof.Machine

open Sys2Proof

/-! ## Transfers -/

/-- No line looks at port B. -/
theorem Settled.onPortB {s : State} (h : Settled s) (f : PortB → PortB) : driveLines (s.onPortB f) = s.onPortB f :=
  h.update (fun t => t.onPortB f) rfl

/-- A port B command that begins its transfer. -/
theorem portBBytes_begins {s : State} (hrun : s.phase = .running) (ht : s.portB.transfer = none) (k : TransferKind)
    (bytes : List Byte) : portBBytes k bytes s = bytes.foldl transferByte (beginTransfer k s) := by
  simp [portBBytes, hrun, continues, ht]

/-- A port B command that goes on with the transfer in progress. -/
theorem portBBytes_goesOn {s : State} {t : Transfer} (hrun : s.phase = .running) (ht : s.portB.transfer = some t)
    (bytes : List Byte) : portBBytes t.kind bytes s = bytes.foldl transferByte s := by
  simp [portBBytes, hrun, continues, ht]

/-- The command byte and the two address bytes shift out 0 and leave the transfer at the word's address. -/
theorem portBBytes_address {s : State} (hrun : s.phase = .running) (ht : s.portB.transfer = none) (k : TransferKind) (hi lo : Byte) :
    portBBytes k [hi, lo] s =
      s.onPortB fun _ => ⟨some ⟨k, [hi, lo], (hi ++ lo) &&& 0xFFFC, 0, 0⟩, [0, 0, 0]⟩ := by
  rw [portBBytes_begins hrun ht]
  rfl

/-- What a denied port B access makes of its port, and what its report leaves. -/
theorem denied_onPortB {s : State} (h : Settled s) (kind : AccessKind) (addr : Half) (f : PortB → PortB) :
    let t := driveLines ((reportDenial .b kind addr s).onPortB f)
    t.portA = s.portA ∧ t.portB = f s.portB ∧ Denied s t .b kind addr := by
  rw [reportDenial_onPortB]
  have hports := reportDenial_ports (s.onPortB f) .b kind addr
  exact ⟨congrArg Prod.fst hports, congrArg Prod.snd hports, denied_reportDenial h .b kind addr s.portA (f s.portB)⟩

/-! ## READ -/

theorem fetchWord_granted {s : State} {addr : Half} (hrun : s.phase = .running) (h : permits s.guard .b .read addr.toNat = true) :
    fetchWord addr s = (waitTurn .portB s, (waitTurn .portB s).mem.readWord (portWord addr)) := by
  simp only [fetchWord, hrun, if_pos h]

theorem fetchWord_denied {s : State} {addr : Half} (hrun : s.phase = .running) (h : permits s.guard .b .read addr.toNat = false) :
    fetchWord addr s = (reportDenial .b .read addr s, 0) := by
  simp only [fetchWord, hrun, h, Bool.false_eq_true, if_false]

section
variable {s : State} {bytes : List Byte} {addr : Half} {p : Nat} {w : Word} (hbytes : bytes.length = 2)
include hbytes

/-- The first byte of a READ's word: the word is fetched. -/
theorem transferByte_fetch (ht : s.portB.transfer = some ⟨.read, bytes, addr, 0, w⟩) (x : Byte) : transferByte s x =
    shiftByte ⟨.read, bytes, addr, 1, (fetchWord addr s).2⟩ (wordByte (fetchWord addr s).2 0) (fetchWord addr s).1 := by
  simp only [transferByte, ht, hbytes, Nat.lt_irrefl, if_false, readByte, if_true]

/-- The bytes after it leave from the word as fetched. -/
theorem transferByte_readNext (hp : p ≠ 0) (ht : s.portB.transfer = some ⟨.read, bytes, addr, p, w⟩) (x : Byte) :
    transferByte s x = shiftByte (Transfer.advance ⟨.read, bytes, addr, p, w⟩) (wordByte w p) s := by
  simp only [transferByte, ht, hbytes, Nat.lt_irrefl, if_false, readByte, if_neg hp]

/-- The four bytes of a READ's word: it is fetched with the first and leaves high byte first. -/
theorem transferBytes_read (ht : s.portB.transfer = some ⟨.read, bytes, addr, 0, w⟩) (x1 x2 x3 x4 : Byte) :
    [x1, x2, x3, x4].foldl transferByte s = (fetchWord addr s).1.onPortB fun b =>
      let v := (fetchWord addr s).2
      ⟨some ⟨.read, bytes, addr + 4, 0, v⟩, b.out ++ [wordByte v 0, wordByte v 1, wordByte v 2, wordByte v 3]⟩ := by
  simp only [List.foldl_cons, List.foldl_nil]
  rw [transferByte_fetch hbytes ht, transferByte_readNext hbytes one_ne_zero rfl x2, transferByte_readNext hbytes two_ne_zero rfl x3,
    transferByte_readNext hbytes three_ne_zero rfl x4]
  simp only [shiftByte, State.onPortB, Transfer.advance, List.append_assoc, List.cons_append, List.nil_append]
  rfl

end

/-- Settles O19: each word is fetched as the guard decides and leaves in four bytes (`transferBytes_read`). -/
theorem portBReadShiftsWordsOut : Obligations.PortBReadShiftsWordsOut := by
  unfold Obligations.PortBReadShiftsWordsOut
  intro s hi lo x1 x2 x3 x4 w0 addr out h hrun
  have hbytes : [hi, lo].length = 2 := rfl
  have hexec (hs : s.portB = ⟨some ⟨.read, [hi, lo], addr, 0, w0⟩, out⟩) : exec (.portBRead [x1, x2, x3, x4]) s =
      .next (driveLines ([x1, x2, x3, x4].foldl transferByte s)) :=
    congrArg done (portBBytes_goesOn (t := ⟨.read, [hi, lo], addr, 0, w0⟩) hrun (by rw [hs]) _)
  refine ⟨fun ht => ?address, fun hs hp => ⟨_, hexec hs, ?granted⟩, fun hs hp => ⟨_, hexec hs, ?denied⟩⟩
  case address =>
    exact (congrArg done (portBBytes_address hrun ht .read hi lo)).trans (congrArg _ (h.onPortB _))
  case granted =>
    rw [transferBytes_read hbytes (by rw [hs]), fetchWord_granted hrun hp]
    have hout : (waitTurn .portB s).portB.out = out := by rw [waitTurn_portB, hs]
    exact ⟨rfl, by rw [← hout]; rfl⟩
  case denied =>
    rw [transferBytes_read hbytes (by rw [hs]), fetchWord_denied hrun hp]
    obtain ⟨hportA, hportB, hdenied⟩ := denied_onPortB h .read addr fun b =>
      ⟨some ⟨.read, [hi, lo], addr + 4, 0, 0⟩, b.out ++ [wordByte 0 0, wordByte 0 1, wordByte 0 2, wordByte 0 3]⟩
    refine ⟨hdenied, hportA, hportB.trans ?_⟩
    rw [hs, wordByte_zero, wordByte_zero, wordByte_zero, wordByte_zero]

/-! ## WRITE -/

theorem depositWord_granted {s : State} {addr : Half} (hrun : s.phase = .running) (h : permits s.guard .b .write addr.toNat = true)
    (w : Word) : depositWord addr w s = (waitTurn .portB s).storeWord (portWord addr) w := by
  simp only [depositWord, hrun, if_pos h]

theorem depositWord_denied {s : State} {addr : Half} (hrun : s.phase = .running) (h : permits s.guard .b .write addr.toNat = false)
    (w : Word) : depositWord addr w s = reportDenial .b .write addr s := by
  simp only [depositWord, hrun, h, Bool.false_eq_true, if_false]

theorem depositWord_portB (s : State) (addr : Half) (w : Word) : (depositWord addr w s).portB = s.portB := by
  unfold depositWord
  (repeat' split)
  · exact waitTurn_portB s .portB
  · exact congrArg Prod.snd (reportDenial_ports s ..)
  · rfl

/-- A byte shifted into a word. -/
def shiftIn (w : Word) (x : Byte) : Word := (w <<< 8) ||| x.setWidth 32

theorem getLsbD_shiftIn (w : Word) (x : Byte) (i : Nat) (hi : i < 32) :
    (shiftIn w x).getLsbD i = if i < 8 then x.getLsbD i else w.getLsbD (i - 8) := by
  simp only [shiftIn, BitVec.getLsbD_or, BitVec.getLsbD_shiftLeft, BitVec.getLsbD_setWidth, hi, decide_true, Bool.true_and]
  split
  · next h => simp [h]
  · next h => simp [h, BitVec.getLsbD_of_ge x i (Nat.not_lt.1 h)]

/-- Three bytes shifted in stand below the last byte of the word. -/
theorem shiftIn_three (w : Word) (x1 x2 x3 : Byte) :
    shiftIn (shiftIn (shiftIn w x1) x2) x3 = ((w.extractLsb' 0 8 ++ x1) ++ (x2 ++ x3) : BitVec (8 + 8 + (8 + 8))) := by
  refine BitVec.eq_of_getLsbD_eq fun i hi => ?_
  simp only [BitVec.getLsbD_append, BitVec.getLsbD_extractLsb']
  simp (disch := omega) only [getLsbD_shiftIn]
  grind

/-- Four bytes shifted in make the word. -/
theorem shiftIn_four (w : Word) (x1 x2 x3 x4 : Byte) :
    shiftIn (shiftIn (shiftIn (shiftIn w x1) x2) x3) x4 = ((x1 ++ x2) ++ (x3 ++ x4) : BitVec (8 + 8 + (8 + 8))) := by
  refine BitVec.eq_of_getLsbD_eq fun i hi => ?_
  simp only [BitVec.getLsbD_append]
  simp (disch := omega) only [getLsbD_shiftIn]
  grind

section
variable {s : State} {bytes : List Byte} {addr : Half} {p : Nat} {w : Word} (hbytes : bytes.length = 2)
include hbytes

/-- A byte of a WRITE before the fourth of its word. -/
theorem transferByte_shiftIn (hp : p ≠ 3) (ht : s.portB.transfer = some ⟨.write, bytes, addr, p, w⟩) (x : Byte) :
    transferByte s x = shiftByte ⟨.write, bytes, addr, p + 1, shiftIn w x⟩ 0 s := by
  simp only [transferByte, ht, hbytes, Nat.lt_irrefl, if_false, writeByte, Transfer.advance, if_neg hp]
  rfl

/-- The fourth byte: the word is deposited. -/
theorem transferByte_deposit (ht : s.portB.transfer = some ⟨.write, bytes, addr, 3, w⟩) (x : Byte) :
    transferByte s x = shiftByte ⟨.write, bytes, addr + 4, 0, shiftIn w x⟩ 0 (depositWord addr (shiftIn w x) s) := by
  simp only [transferByte, ht, hbytes, Nat.lt_irrefl, if_false, writeByte, Transfer.advance, if_true]
  rfl

/-- Three bytes of a WRITE's word change port B alone. -/
theorem transferBytes_three (ht : s.portB.transfer = some ⟨.write, bytes, addr, 0, w⟩) (x1 x2 x3 : Byte) :
    [x1, x2, x3].foldl transferByte s = s.onPortB fun b =>
      ⟨some ⟨.write, bytes, addr, 3, (w.extractLsb' 0 8 ++ x1) ++ (x2 ++ x3)⟩, b.out ++ [0, 0, 0]⟩ := by
  simp only [List.foldl_cons, List.foldl_nil]
  rw [transferByte_shiftIn hbytes (by decide) ht, transferByte_shiftIn hbytes (by decide) rfl x2,
    transferByte_shiftIn hbytes (by decide) rfl x3, shiftIn_three]
  simp only [shiftByte, State.onPortB, List.append_assoc, List.cons_append, List.nil_append]

/-- The fourth byte completes the word, which is deposited. -/
theorem transferBytes_four (ht : s.portB.transfer = some ⟨.write, bytes, addr, 0, w⟩) (x1 x2 x3 x4 : Byte) :
    [x1, x2, x3, x4].foldl transferByte s = shiftByte ⟨.write, bytes, addr + 4, 0, (x1 ++ x2) ++ (x3 ++ x4)⟩ 0
      (depositWord addr ((x1 ++ x2) ++ (x3 ++ x4)) (s.onPortB fun b =>
        ⟨some ⟨.write, bytes, addr, 3, (w.extractLsb' 0 8 ++ x1) ++ (x2 ++ x3)⟩, b.out ++ [0, 0, 0]⟩)) := by
  have hlast : [x1, x2, x3, x4].foldl transferByte s = transferByte ([x1, x2, x3].foldl transferByte s) x4 := rfl
  rw [hlast, transferBytes_three hbytes ht, transferByte_deposit hbytes rfl, ← shiftIn_three, shiftIn_four]

end

/-! ## Other transfers -/

/-- The bytes of a transfer that neither reads nor writes change port B alone, which shifts out 0. -/
theorem transferBytes_other (bytes : List Byte) {s : State} {t : Transfer} (ht : s.portB.transfer = some t) (hk : t.kind = .other) :
    ∃ b, bytes.foldl transferByte s = { s with portB := b } ∧ b.out = s.portB.out ++ List.replicate bytes.length 0 ∧
      ∃ u, b.transfer = some u ∧ u.kind = .other := by
  induction bytes generalizing s t with
  | nil => exact ⟨s.portB, rfl, (List.append_nil _).symm, t, ht, hk⟩
  | cons x xs ih =>
    obtain ⟨u, hu, hx⟩ : ∃ u : Transfer, u.kind = .other ∧ transferByte s x = shiftByte u 0 s := by
      simp only [transferByte, ht, hk]
      split
      · exact ⟨_, (t.addrByte_kind x).trans hk, rfl⟩
      · exact ⟨t, hk, rfl⟩
    obtain ⟨b, hb, hout, hlast⟩ := ih (s := shiftByte u 0 s) rfl hu
    refine ⟨b, by rw [List.foldl_cons, hx, hb]; rfl, ?_, hlast⟩
    rw [hout]
    simp [shiftByte, List.replicate_succ]

/-- Settles O20: the first three bytes of a word change port B alone (`transferBytes_three`), the fourth deposits it
(`transferBytes_four`); the bytes of other transfers only shift (`transferBytes_other`). -/
theorem portBWritesAndOtherTransfers : Obligations.PortBWritesAndOtherTransfers := by
  unfold Obligations.PortBWritesAndOtherTransfers
  refine ⟨fun s hi lo x1 x2 x3 x4 w0 addr out h => ⟨fun ht => ?address, fun hs => ?data⟩,
    fun s b bs h hrun => ⟨fun ht => ?other, congrArg _ (h.onPortB _)⟩⟩
  case address =>
    exact (congrArg done (portBBytes_address h.running ht .write hi lo)).trans (congrArg _ (h.settled.onPortB _))
  case data =>
    have hbytes : [hi, lo].length = 2 := rfl
    have ht : s.portB.transfer = some ⟨.write, [hi, lo], addr, 0, w0⟩ := by rw [hs]
    have hexec (xs : List Byte) : exec (.portBWrite xs) s = .next (driveLines (xs.foldl transferByte s)) :=
      congrArg done (portBBytes_goesOn h.running ht xs)
    refine ⟨⟨_, hexec [x1, x2, x3], ?three⟩, ?word⟩
    case three =>
      rw [transferBytes_three hbytes ht, h.settled.onPortB]
      rfl
    case word =>
      intro z u w
      have hz : (s.onPortB fun b => ⟨some ⟨.write, [hi, lo], addr, 3, (w0.extractLsb' 0 8 ++ x1) ++ (x2 ++ x3)⟩,
          b.out ++ [0, 0, 0]⟩) = z := by
        simp only [State.onPortB, hs]
        rfl
      refine ⟨_, hexec [x1, x2, x3, x4], ?_⟩
      rw [transferBytes_four hbytes ht, hz]
      refine ⟨?out, ⟨_, rfl⟩, fun hp => ?granted, fun hp => ?denied⟩
      case out =>
        refine (congrArg (fun b : PortB => b.out ++ [0]) (depositWord_portB z addr _)).trans ?_
        simp [z]
      case granted =>
        have hmem : u.mem.wf = true := State.MemOk.waitTurn (s := z) h.memory .portB
        rw [depositWord_granted (s := z) h.running hp]
        exact ⟨Memory.readWord_writeWord _ _ hmem, fun a ha => Memory.read_writeWord_outside _ hmem ha, rfl⟩
      case denied =>
        rw [depositWord_denied (s := z) h.running hp, ← hz, ← reportDenial_onPortB]
        obtain ⟨hportA, _, hdenied⟩ := denied_onPortB h.settled .write addr fun b =>
          ⟨some ⟨.write, [hi, lo], addr + 4, 0, (x1 ++ x2) ++ (x3 ++ x4)⟩, b.out ++ [0, 0, 0] ++ [0]⟩
        exact ⟨hdenied, hportA⟩
  case other =>
    obtain ⟨p, hp, hout, hlast⟩ := transferBytes_other bs (s := beginTransfer .other s) rfl rfl
    have hexec : exec (.portBOtherCommand b bs) s = .next { s with portB := p } :=
      (congrArg done ((portBBytes_begins hrun ht .other bs).trans hp)).trans (congrArg _ (h.onPortB fun _ => p))
    exact ⟨_, hexec, rfl, hout.trans (by rw [List.replicate_succ]; rfl), hlast⟩

/-! ## Where the ports change memory (R203) -/

theorem permits_of_policy {g q : AccessGuard} (hr : g.ranges = q.ranges) (hd : g.deny = q.deny) : permits g = permits q := by
  funext p k a
  simp only [permits, hr, hd]

/-- The report changes no range and no policy. -/
theorem permits_reportDenial (port : Port) (kind : AccessKind) (addr : Half) (s : State) :
    permits (reportDenial port kind addr s).guard = permits s.guard := by
  cases h : s.guard.fault with
  | none =>
    rw [reportDenial_latches h]
    have hguard := congrArg Surround.guard (giveCondition_surround .access true
      ((s.onGuard fun g => { g with fault := some ⟨port, kind, addr, false⟩ }).raise .guard))
    exact permits_of_policy (congrArg AccessGuard.ranges hguard :) (congrArg AccessGuard.deny hguard :)
  | some r =>
    rw [reportDenial_marks h]
    exact permits_of_policy rfl rfl

/-- What is granted or reported before a byte of the transfer is shifted, where no internal access waits. -/
inductive ByteAccess (s : State) (t : Transfer) : State → Prop
  | none : ByteAccess s t s
  | read : ByteAccess s t (s.withArbLast .portB)
  | denied (kind : AccessKind) : ByteAccess s t (reportDenial .b kind t.addr s)
  | stored (w : Word) (hkind : t.kind = .write) (hgranted : permits s.guard .b .write t.addr.toNat = true) :
      ByteAccess s t ((s.withArbLast .portB).storeWord (portWord t.addr) w)

theorem fetchWord_access {s : State} (hrun : s.phase = .running) (h : Idle s) (t : Transfer) :
    ByteAccess s t (fetchWord t.addr s).1 := by
  cases hp : permits s.guard .b .read t.addr.toNat with
  | true =>
    rw [fetchWord_granted hrun hp, waitTurn_idle .portB h]
    exact .read
  | false =>
    rw [fetchWord_denied hrun hp]
    exact .denied .read

theorem depositWord_access {s : State} {t : Transfer} (hrun : s.phase = .running) (h : Idle s) (hkind : t.kind = .write) (w : Word) :
    ByteAccess s t (depositWord t.addr w s) := by
  cases hp : permits s.guard .b .write t.addr.toNat with
  | true =>
    rw [depositWord_granted hrun hp, waitTurn_idle .portB h]
    exact .stored w hkind hp
  | false =>
    rw [depositWord_denied hrun hp]
    exact .denied .write

section
variable {s v : State} {t : Transfer} (h : ByteAccess s t v)
include h

theorem ByteAccess.phase : v.phase = s.phase := by
  cases h with
  | denied kind => exact reportDenial_phase ..
  | _ => rfl

theorem ByteAccess.permits_guard : permits v.guard = permits s.guard := by
  cases h with
  | denied kind => exact permits_reportDenial ..
  | _ => rfl

/-- The access changes memory only by storing the word at the transfer's address, where the guard grants a WRITE. -/
theorem ByteAccess.read_mem (hmem : s.MemOk) {a : Nat} (ha : v.mem.read a ≠ s.mem.read a) :
    t.kind = .write ∧ permits s.guard .b .write t.addr.toNat = true ∧ inWord (portWord t.addr) a := by
  cases h with
  | none => exact absurd rfl ha
  | read => exact absurd rfl ha
  | denied kind => exact absurd (by rw [reportDenial_mem]) ha
  | stored w hkind hgranted =>
    exact ⟨hkind, hgranted, Classical.byContradiction fun hout => ha (Memory.read_writeWord_outside w hmem hout)⟩

end

/-- The transfer stands at a word's address. -/
def Transfer.Aligned (t : Transfer) : Prop := t.addr &&& 3 = 0

theorem aligned_iff {t : Transfer} : t.Aligned ↔ t.addr.toNat % 4 = 0 := by
  rw [Transfer.Aligned, ← BitVec.toNat_inj, BitVec.toNat_and]
  exact Eq.congr_left (Nat.and_two_pow_sub_one_eq_mod _ 2)

theorem Transfer.Aligned.advance {t : Transfer} (h : t.Aligned) : t.advance.Aligned := by
  unfold Transfer.advance
  split
  · rw [aligned_iff] at h ⊢
    change (t.addr + 4).toNat % 4 = 0
    have hfour : (4 : Half).toNat = 4 := rfl
    rw [BitVec.toNat_add, hfour]
    omega
  · exact h

theorem Transfer.Aligned.addrByte {t : Transfer} (h : t.Aligned) (x : Byte) : (t.addrByte x).Aligned := by
  unfold Transfer.addrByte
  split
  · exact h
  · next hi _ _ =>
    show ((hi ++ x : Half) &&& 0xFFFC) &&& 3 = 0
    rw [BitVec.and_assoc]
    exact BitVec.and_zero

/-- A byte of an aligned transfer: the access it makes, then its shift. -/
theorem transferByte_access {s : State} {t : Transfer} (hrun : s.phase = .running) (h : Idle s) (ht : s.portB.transfer = some t)
    (hal : t.Aligned) (x : Byte) :
    ∃ u o v, transferByte s x = shiftByte u o v ∧ ByteAccess s t v ∧ u.kind = t.kind ∧ u.Aligned := by
  have hadvance (u : Transfer) : u.advance.kind = u.kind := by
    unfold Transfer.advance
    split <;> rfl
  simp only [transferByte, ht]
  split
  · exact ⟨_, _, _, rfl, .none, t.addrByte_kind x, hal.addrByte x⟩
  cases hk : t.kind with
  | read =>
    simp only [readByte]
    split
    · exact ⟨_, _, _, rfl, fetchWord_access hrun h t, hk, hal⟩
    · exact ⟨_, _, _, rfl, .none, (hadvance t).trans hk, hal.advance⟩
  | write =>
    simp only [writeByte]
    split
    · exact ⟨_, _, _, rfl, depositWord_access hrun h hk _, (hadvance _).trans hk, Transfer.Aligned.advance hal⟩
    · exact ⟨_, _, _, rfl, .none, (hadvance _).trans hk, Transfer.Aligned.advance hal⟩
  | other => exact ⟨_, _, _, rfl, .none, hk, hal⟩

/-- The byte's word, by its address. -/
theorem addr_of_inWord {t : Transfer} (h : t.Aligned) {a : Nat} (ha : inWord (portWord t.addr) a) : t.addr.toNat = 4 * (a / 4) := by
  have hword : (portWord t.addr).toNat = t.addr.toNat / 4 := by
    simp [portWord, Nat.shiftRight_eq_div_pow]
    omega
  have hmod := aligned_iff.1 h
  obtain ⟨hlow, hhigh⟩ := ha
  simp only [wordAddr, hword] at hlow hhigh
  omega

theorem transferBytes_mem (bytes : List Byte) {s : State} {t : Transfer} (hrun : s.phase = .running) (hmem : s.MemOk) (h : Idle s)
    (ht : s.portB.transfer = some t) (hal : t.Aligned) {a : Nat} (ha : (bytes.foldl transferByte s).mem.read a ≠ s.mem.read a) :
    t.kind = .write ∧ permits s.guard .b .write (4 * (a / 4)) = true := by
  induction bytes generalizing s t with
  | nil => exact absurd rfl ha
  | cons x xs ih =>
    obtain ⟨u, o, v, hx, haccess, hkind, hual⟩ := transferByte_access hrun h ht hal x
    by_cases hv : v.mem.read a = s.mem.read a
    · have hmem' : (transferByte s x).MemOk := hmem.transferByte x
      have hidle : Idle (transferByte s x) := (transferByte_sameWork h x).idle h
      rw [List.foldl_cons, hx] at ha
      rw [hx] at hmem' hidle
      have hrest := ih (s := shiftByte u o v) (haccess.phase.trans hrun) hmem' hidle rfl hual fun he => ha (he.trans hv)
      rwa [hkind, show permits (shiftByte u o v).guard = permits s.guard from haccess.permits_guard] at hrest
    · obtain ⟨hwrite, hgranted, hin⟩ := haccess.read_mem hmem hv
      rw [addr_of_inWord hal hin] at hgranted
      exact ⟨hwrite, hgranted⟩

/-- A port B command. -/
theorem portBBytes_mem {s : State} (hrun : s.phase = .running) (hmem : s.MemOk) (h : Idle s)
    (hal : ∀ t, s.portB.transfer = some t → t.Aligned) (k : TransferKind) (bytes : List Byte) {a : Nat}
    (ha : (portBBytes k bytes s).mem.read a ≠ s.mem.read a) :
    k = .write ∧ permits s.guard .b .write (4 * (a / 4)) = true := by
  simp only [portBBytes, hrun] at ha
  split at ha
  · next hc =>
    unfold continues at hc
    split at hc
    · cases hc
    · next t ht =>
      obtain rfl : t.kind = k := by simpa using hc
      exact transferBytes_mem bytes hrun hmem h ht (hal t ht) ha
  · exact transferBytes_mem bytes (s := beginTransfer k s) hrun hmem h rfl (by decide : (0 : Half) &&& 3 = 0) ha

theorem lowAddr_eq_shift (x : Half) : lowAddr x = (x >>> 2) <<< 2 := by
  refine BitVec.eq_of_getLsbD_eq fun i hi => ?_
  have hmask : ∀ i < 16, (0xFFFC : Half).getLsbD i = !decide (i < 2) := by decide
  have hbit : i < 2 ∨ 2 + (i - 2) = i := by omega
  rw [lowAddr, BitVec.getLsbD_and, hmask i hi, BitVec.getLsbD_shiftLeft, BitVec.getLsbD_ushiftRight]
  grind

theorem lowAddr_toNat (x : Half) : (lowAddr x).toNat = wordAddr (portWord x) := by
  have hx := x.isLt
  rw [lowAddr_eq_shift, wordAddr, portWord]
  simp [Nat.shiftLeft_eq, Nat.shiftRight_eq_div_pow]
  omega

theorem highAddr_toNat (x : Half) : (highAddr x).toNat = wordAddr (portWord x) + 2 := by
  have happart : lowAddr x &&& 2 = 0#16 := by
    rw [lowAddr, BitVec.and_assoc]
    exact BitVec.and_zero
  have hlt := wordAddr_lt (portWord x)
  have htwo : (2 : Half).toNat = 2 := rfl
  change (lowAddr x ||| 2).toNat = _
  rw [← BitVec.add_eq_or_of_and_eq_zero _ _ happart, BitVec.toNat_add, lowAddr_toNat, htwo]
  omega

/-- A high-half store changes the high half, and the low half where the latch holds the word. -/
theorem read_highHalfStore {m : Memory} (hmem : m.wf = true) (latch : Option (WordIdx × Half)) (w : WordIdx) (data : Half) {a : Nat}
    (ha : (highHalfStore latch w data m).read a ≠ m.read a) : 2 * (a / 2) = wordAddr w + 2 ∨
      2 * (a / 2) = wordAddr w ∧ ∃ low, latch = some (w, low) := by
  have hin : inWord w a := Classical.byContradiction fun hout => ha (read_highHalfStore_outside w data m latch hmem hout)
  obtain ⟨hlow, hhigh⟩ := hin
  have hlt := wordAddr_lt w
  have haddr : wordAddr w = 4 * w.toNat := rfl
  by_cases hl : ∃ low, latch = some (w, low)
  · refine or_iff_not_imp_left.2 fun hne => ⟨by omega, hl⟩
  · rw [highHalfStore_unlatched _ _ _ fun low he => hl ⟨low, he⟩] at ha
    by_contra hne
    exact ha (Memory.read_writeHalf_other _ hmem (by omega) (by omega) (by omega))

theorem lowHalfRead_mem {s : State} (h : Idle s) (addr : Half) : (lowHalfRead addr s).mem = s.mem := by
  unfold lowHalfRead
  split
  · rw [waitTurn_idle .portA h]
    rfl
  · exact reportDenial_mem ..

theorem highHalfRead_mem {s : State} (h : Idle s) (addr : Half) : (highHalfRead addr s).mem = s.mem := by
  unfold highHalfRead
  (repeat' split)
  · rfl
  · rw [waitTurn_idle .portA h]
    rfl
  · exact reportDenial_mem ..

/-- Settles O18: of the port A commands only a granted high half stores (`read_highHalfStore`), of the port B commands only a WRITE, and
only words the guard grants (`portBBytes_mem`). -/
theorem portWritesOnlyWhereGranted : Obligations.PortWritesOnlyWhereGranted := by
  unfold Obligations.PortWritesOnlyWhereGranted
  intro c s t a hs h hal hc ht ha
  have portA {f g : State → State} (hd : done (portPhase s f g) = .next t) : t.mem = (g s).mem :=
    (congrArg State.mem (Host.Outcome.next.inj ((done_portPhase hs.running f g).symm.trans hd))).symm
  have portB {k : TransferKind} {bytes : List Byte} (hd : done (portBBytes k bytes s) = .next t) :
      k = .write ∧ permits s.guard .b .write (4 * (a / 4)) = true :=
    portBBytes_mem hs.running hs.memory h hal k bytes fun he => ha (by
      rw [← Host.Outcome.next.inj hd]
      exact he)
  rcases hc with ⟨x, d, rfl | rfl⟩ | ⟨x, rfl | rfl⟩ | ⟨b, bs, rfl | rfl | rfl⟩ | rfl
  · exact absurd (by rw [portA ht, lowHalfWrite_mem]) ha
  · rw [portA ht] at ha
    cases hp : permits s.guard .a .write (highAddr x).toNat with
    | true =>
      rw [highHalfWrite_granted hp, waitTurn_idle .portA h] at ha
      refine .inl ⟨x, d, rfl, hp, ?_⟩
      have hbyte := read_highHalfStore hs.memory s.portA.latch (portWord x) d ha
      rwa [← highAddr_toNat, ← lowAddr_toNat] at hbyte
    | false =>
      rw [highHalfWrite_denied hp, reportDenial_mem] at ha
      exact absurd rfl ha
  · exact absurd (by rw [portA ht, lowHalfRead_mem h]) ha
  · exact absurd (by rw [portA ht, highHalfRead_mem h]) ha
  · exact absurd (portB ht).1 (by decide)
  · exact .inr ⟨bs, rfl, (portB ht).2⟩
  · exact absurd (portB ht).1 (by decide)
  · rw [← Host.Outcome.next.inj ht] at ha
    exact absurd rfl ha

end Sys2Proof.Machine
end

section
/-! PROOFS. Chapter 11, the register window and the requests for a card service (O13). -/

namespace Sys2Proof.Machine

open Sys2Proof

/-! ## The notices' bits (R199) -/

/-- The place of a notice's bit in NOTICE and in the mask. -/
def Notice.place : Notice → Fin 7
  | .card => 0
  | .scan => 1
  | .alarm => 2
  | .sheet => 3
  | .traverse => 4
  | .std => 5
  | .guard => 6

theorem Notice.bit_eq (n : Notice) : n.bit = BitVec.twoPow 7 n.place := by cases n <;> rfl

theorem Notice.exists_place : ∀ i : Fin 7, ∃ n : Notice, n.place = i
  | 0 => ⟨.card, rfl⟩
  | 1 => ⟨.scan, rfl⟩
  | 2 => ⟨.alarm, rfl⟩
  | 3 => ⟨.sheet, rfl⟩
  | 4 => ⟨.traverse, rfl⟩
  | 5 => ⟨.std, rfl⟩
  | 6 => ⟨.guard, rfl⟩

/-- A flag of a value of NOTICE, by its place. -/
theorem and_bit (v : BitVec 7) (n : Notice) : v &&& n.bit = if v.getLsbD n.place then n.bit else 0 := by
  rw [Notice.bit_eq, BitVec.and_twoPow]
  rfl

theorem bit_ne_zero (n : Notice) : n.bit ≠ 0#7 := by cases n <;> decide

theorem and_bit_eq_zero_iff (v : BitVec 7) (n : Notice) : v &&& n.bit = 0 ↔ v.getLsbD n.place = false := by
  rw [and_bit]
  cases v.getLsbD n.place <;> simp [bit_ne_zero n]

/-- Two values meet where some notice's flag is set in both. -/
theorem and_ne_zero_iff (v u : BitVec 7) : v &&& u ≠ 0 ↔ ∃ n : Notice, v &&& n.bit ≠ 0 ∧ u &&& n.bit ≠ 0 := by
  simp only [ne_eq, and_bit_eq_zero_iff, Bool.not_eq_false, ← Bool.and_eq_true, ← BitVec.getLsbD_and]
  constructor
  · intro h
    by_contra hnone
    refine h (BitVec.eq_of_getLsbD_eq fun i hi => ?_)
    obtain ⟨n, hn⟩ := Notice.exists_place ⟨i, hi⟩
    have hplace : (v &&& u).getLsbD n.place = false := Bool.eq_false_iff.2 fun hset => hnone ⟨n, hset⟩
    rw [show (0 : BitVec 7).getLsbD i = false from BitVec.getLsbD_zero, ← hplace, hn]
  · rintro ⟨n, hn⟩ hzero
    rw [hzero] at hn
    simp at hn

theorem attnLine_iff (s : State) : attnLine s = true ↔ ∃ n : Notice, s.notices &&& n.bit ≠ 0 ∧ s.mask &&& n.bit ≠ 0 := by
  rw [attnLine, bne_iff_ne, and_ne_zero_iff]

/-- Writing 1 clears a flag, writing 0 leaves it. -/
theorem and_not_and_bit (v x : BitVec 7) (n : Notice) :
    x &&& ~~~v &&& n.bit = if v &&& n.bit = 0 then x &&& n.bit else 0 := by
  split
  · next h => exact and_not_and_of_and_eq_zero h
  · next h =>
    rw [and_bit_eq_zero_iff, Bool.not_eq_false] at h
    rw [and_bit_eq_zero_iff, BitVec.getLsbD_and, BitVec.getLsbD_not, h]
    simp

/-! ## The window (R194, R198) -/

/-- Address bits 3 to 1 alone choose a register's half. -/
theorem windowHalf_and (a : Half) : windowHalf (a &&& 0xE) = windowHalf a := by
  have hregister : (a &&& 0xE).extractLsb' 2 2 = a.extractLsb' 2 2 := by
    refine BitVec.eq_of_getLsbD_eq fun i hi => ?_
    have hmask : ∀ i < 2, (0xE : Half).getLsbD (2 + i) = true := by decide
    simp only [BitVec.getLsbD_extractLsb', BitVec.getLsbD_and, hmask i hi, Bool.and_true]
  have hhalf : (a &&& 0xE).getLsbD 1 = a.getLsbD 1 := by
    rw [BitVec.getLsbD_and]
    exact Bool.and_true _
  simp only [windowHalf, hregister, hhalf]

theorem windowHalf_of {a c : Half} (h : a &&& 0xE = c) : windowHalf a = windowHalf c := by
  rw [← h, windowHalf_and]

theorem reset_bit_iff (v : Half) : v &&& 0x8000 = 0 ↔ v.getLsbD 15 = false := by
  have hbit : (0x8000 : Half) = BitVec.twoPow 16 15 := rfl
  rw [hbit, BitVec.and_twoPow]
  cases v.getLsbD 15 <;> simp

section
variable (s : State) (v : Half) {a c : Half} (h : a &&& 0xE = c)
include h

theorem windowWrite_of : windowWrite a v = windowWrite c v := by
  simp only [windowWrite, windowHalf_of h]

theorem readWindow_of : readWindow s a = readWindow s c := by
  simp only [readWindow, windowHalf_of h]

end

theorem windowWrite_control (v : Half) : windowWrite 0x4 v = if v &&& 0x8000 = 0 then .setNoticeMask v else .softReset v := by
  change (if v.getLsbD 15 then Instr.softReset v else .setNoticeMask v) = _
  simp only [reset_bit_iff]
  cases v.getLsbD 15 <;> rfl

theorem readRegister_identHigh {s : State} (hrun : s.phase = .running) : readRegister s .ident true = 0x8001 := by
  simp only [readRegister, hrun]
  decide

theorem readRegister_controlLow {s : State} (hrun : s.phase = .running) : readRegister s .control false = s.mask.setWidth 16 := by
  simp only [readRegister, hrun]
  rfl

theorem readRegister_noticeLow {s : State} (hrun : s.phase = .running) : readRegister s .notice false = s.notices.setWidth 16 := by
  simp only [readRegister, hrun]
  rfl

/-! ## Requests for a card service (R208) -/

/-- The slots of a service, from the one after the last taken. -/
theorem serviceSlots_eq (last : Slot) : serviceSlots last = (List.finRange 16).map fun i : Fin 16 => last + 1 + i := by
  refine List.map_congr_left fun i _ => ?_
  rw [add_assoc, add_comm]

/-- The service that a request starts. -/
def startedService (s : State) : Option Service :=
  let left := if s.ord.answers = [] then (serviceSlots s.ord.lastSlot).dropWhile (inFlight s) else serviceSlots s.ord.lastSlot
  if left = [] then none else some ⟨left, none⟩

theorem startService_eq (s : State) : startService s = s.onOrd fun o => { o with service := startedService s } := by
  have hslots : serviceSlots s.ord.lastSlot ≠ [] := by simp [serviceSlots]
  unfold startService trimService startedService
  cases ha : s.ord.answers with
  | nil =>
    simp only [State.onOrd, ha, List.isEmpty_iff]
    rfl
  | cons a as => simp [State.onOrd, ha, hslots]

theorem requestService_idle {s : State} (h : s.ord.service = none) :
    requestService s = s.onOrd fun o => { o with service := startedService s } := by
  rw [requestService, h]
  exact startService_eq s

theorem requestService_running {s : State} (h : s.ord.service ≠ none) :
    requestService s = s.onOrd fun o => { o with queued := true } := by
  obtain ⟨v, hv⟩ := Option.ne_none_iff_exists'.1 h
  rw [requestService, hv]

theorem startQueued_idle {s : State} (h : s.ord.service = none) (hq : s.ord.queued = true) :
    startQueued s = s.onOrd fun o => { o with service := startedService s, queued := false } := by
  rw [startQueued, h, hq]
  exact startService_eq _

theorem startQueued_still {s : State} (h : s.ord.service ≠ none ∨ s.ord.queued = false) : startQueued s = s := by
  unfold startQueued
  split
  · next hnone =>
    have hq : s.ord.queued = false := h.resolve_left fun hn => hn hnone
    simp [hq]
  · rfl

/-- No line looks at the cards. -/
theorem Settled.onOrd {s : State} (h : Settled s) (f : OrderUnit → OrderUnit) : driveLines (s.onOrd f) = s.onOrd f :=
  h.update (fun t => t.onOrd f) rfl

/-- The other lines look neither at the notices nor at the mask. -/
theorem Settled.notices_mask {s : State} (h : Settled s) (nt : BitVec 7) (m : BitVec 7) :
    driveLines { s with notices := nt, mask := m } =
      { s with notices := nt, mask := m, pins := { s.pins with attn := attnLine { s with notices := nt, mask := m } } } :=
  congrArg (fun u : State => { u with
    notices := nt
    mask := m
    pins := { u.pins with attn := attnLine { s with notices := nt, mask := m } } }) h

/-- Settles O13: the lines but ATTN stand (`Settled.notices_mask`), the window's bits choose the half (`windowHalf_and`), and a service
requested starts with the slots of `startedService` or is queued. -/
theorem registerWritesWhileServing : Obligations.RegisterWritesWhileServing := by
  unfold Obligations.RegisterWritesWhileServing
  refine ⟨fun s v h hrun => ⟨?mask, ?notice, fun r => congrArg Host.Outcome.next h, fun a => ?window⟩,
    fun s hi v h hrun => ?service⟩
  case mask =>
    refine ⟨_, (done_whenRunning hrun _).trans (congrArg _ (h.notices_mask s.notices (v.setWidth 7))), rfl, ?_, rfl, rfl⟩
    exact attnLine_iff { s with mask := v.setWidth 7 }
  case notice =>
    set x := s.notices &&& ~~~(v.setWidth 7 : BitVec 7) with hx
    refine ⟨_, (done_whenRunning hrun _).trans (congrArg _ (h.notices_mask x s.mask)), fun n => ?_, ?_, rfl, rfl⟩
    · exact and_not_and_bit ..
    · exact attnLine_iff { s with notices := x }
  case window =>
    refine ⟨fun h => ?_, fun h => ?_, fun h => ?_, fun h => ?_, fun h => ?_, fun h => ?_, fun h => ?_, fun h => ?_⟩ <;>
      rw [windowWrite_of v h, readWindow_of s h]
    · exact ⟨rfl, rfl⟩
    · exact ⟨rfl, readRegister_identHigh hrun⟩
    · exact ⟨windowWrite_control v, readRegister_controlLow hrun⟩
    · exact ⟨rfl, rfl⟩
    · exact ⟨rfl, readRegister_noticeLow hrun⟩
    · exact ⟨rfl, rfl⟩
    · exact ⟨rfl, rfl⟩
    · exact ⟨rfl, rfl⟩
  case service =>
    intro slots left started
    have hstarted : startedService s = started := by
      simp only [startedService, serviceSlots_eq]
      rfl
    have hexec {f : State → State} {g : OrderUnit → OrderUnit} (hf : f s = s.onOrd g) :
        done (whenRunning s f) = .next (s.onOrd g) := by
      rw [done_whenRunning hrun, hf, h.onOrd]
    rw [← hstarted]
    refine ⟨fun hn => hexec (requestService_idle hn), fun hn => hexec (requestService_running hn),
      fun hn hq => hexec (startQueued_idle hn hq), fun hn => ?_⟩
    exact (done_whenRunning hrun _).trans (by rw [startQueued_still hn, h])

end Sys2Proof.Machine
end

section
/-! PROOFS. Chapters 11 and 12, the grants before a card is taken: each shortens what the order unit has in hand or what waits before
it, so they end well within the fuel of `deliver`; the two ways of taking a card (O25). -/

namespace Sys2Proof.Machine

open Sys2Proof

/-! ## Grants that lead to an end -/

/-- Where each grant lowers a measure, grants as many as it says reach what is wanted, and more change nothing. -/
theorem grantUntil_stable {wanted : State → Bool} (μ : State → Nat)
    (hμ : ∀ s, wanted s = false → μ (driveLines (grantNext s)) < μ s) (n : Nat) :
    ∀ (m : Nat) (s : State), μ s ≤ n → μ s ≤ m → grantUntil wanted n s = grantUntil wanted m s := by
  induction n with
  | zero =>
    intro m s hn _
    have hw : wanted s = true := by
      by_contra hw
      have := hμ s (Bool.eq_false_iff.2 hw)
      omega
    rw [grantUntil_wanted hw, grantUntil_wanted hw]
  | succ n ih =>
    intro m s hn hm
    cases hw : wanted s with
    | true => rw [grantUntil_wanted hw, grantUntil_wanted hw]
    | false =>
      have hless := hμ s hw
      obtain ⟨m, rfl⟩ : ∃ k, m = k + 1 := ⟨m - 1, by omega⟩
      simp only [grantUntil, hw, Bool.false_eq_true, if_false]
      exact ih m _ (by omega) (by omega)

/-! ## What the order unit has in hand -/

/-- Three writes for each answer, less those made of the first; the reads left of the card being read, and more than the writes of the
answers it may bring. -/
def State.inHand (s : State) : Nat :=
  (3 * s.ord.answers.length - min s.ord.stage 2) +
    s.filterView.reading.elim 0 fun c => 23 - min c.words.length 13

/-- The grants that come at most before the order unit may take a card. -/
def State.grantsDue (s : State) : Nat := 3 * s.inHand + (ringDistance s.arbLast .orderUnit - 2)

theorem ringDistance_le (last r : Requester) : ringDistance last r ≤ 4 := by
  cases last <;> cases r <;> decide

theorem grantsDue_le (s : State) : s.grantsDue ≤ 9 * s.ord.answers.length + 71 := by
  have hring := ringDistance_le s.arbLast .orderUnit
  have hread : (s.filterView.reading.elim 0 fun c => 23 - min c.words.length 13) ≤ 23 := by
    cases s.filterView.reading with
    | none => exact Nat.zero_le _
    | some c => exact Nat.sub_le _ _
  unfold State.grantsDue State.inHand
  omega

theorem trimService_answers (s : State) : (trimService s).ord.answers = s.ord.answers ∧ (trimService s).ord.stage = s.ord.stage := by
  obtain ⟨v, hv, _⟩ := trimService_eq s
  rw [hv]
  exact ⟨rfl, rfl⟩

/-- A write of an answer shortens what is in hand. -/
theorem writeAnswer_inHand {s : State} {a : Answer} {as : List Answer} (h : s.ord.answers = a :: as) :
    (writeAnswer a s).inHand < s.inHand := by
  have hview : (writeAnswer a s).filterView.reading = s.filterView.reading := by rw [writeAnswer_filterView]
  rw [State.inHand, State.inHand, hview, h, List.length_cons]
  refine Nat.add_lt_add_right ?_ _
  unfold writeAnswer
  split
  · next h0 =>
    simp only [State.onOrd_ord, State.storeWord_ord, h, h0, List.length_cons]
    omega
  split
  · next h1 =>
    simp only [State.onOrd_ord, State.storeWord_ord, h, h1, List.length_cons]
    omega
  · simp only [passSlot, State.onCar_ord, trimService_answers, State.raise_ord, leaveFlight, State.onOrd_ord, State.storeWord_ord, h,
      List.tail_cons]
    omega

/-- An access of the card being read shortens what is in hand: the answers that a card brings are fewer than what its end counts for. -/
theorem readCard_inHand {s : State} {left : List Slot} {c : CardRead} (ha : s.ord.answers = [])
    (h : s.ord.service = some ⟨left, some c⟩) : (readCard left c s).inHand < s.inHand := by
  have hreading : s.filterView.reading = some c := congrArg (Option.bind · Service.card) h
  have hhand : s.inHand = 23 - min c.words.length 13 := by
    rw [State.inHand, ha, hreading]
    simp
  rw [hhand]
  unfold readCard
  split
  · next hless =>
    simp only [State.inHand, State.onOrd_ord, ha, State.filterView, Option.bind_some, Option.elim_some, List.length_append,
      List.length_cons, List.length_nil]
    omega
  · set u := s.onOrd fun o => { o with service := some ⟨left, none⟩ } with hu
    set t := takeCard c.slot (cardCode c.words) (cardOrder c.words) u with ht
    have hnone : (trimService t).filterView.reading = none := by
      rw [trimService_filterView]
      exact (takeCard_obeys u c.slot (cardCode c.words) (cardOrder c.words)).elim (·.reading) (·.reading)
    have howed : t.owed ≤ u.owed + 1 := ((State.Follows.refl u).takeCard c.slot (cardCode c.words) (cardOrder c.words)).owed
    have hanswers : t.ord.answers.length ≤ 3 := by
      have hcar := Bool.toNat_le u.car.underWay.isSome
      have hstd := Bool.toNat_le u.std.card.isSome
      have hu0 : u.ord.answers = [] := ha
      simp only [State.owed, hu0, List.length_nil] at howed
      omega
    change (trimService t).inHand < _
    simp only [State.inHand, hnone, trimService_answers, Option.elim_none]
    omega

/-! ## The measure of the grants -/

/-- With a requester waiting, one as near or nearer is granted. -/
theorem grantNext_waiting {s : State} {r : Requester} (hr : waits s r = true) :
    ∃ q, grantNext s = grantTo q s ∧ waits s q = true ∧ ringDistance s.arbLast q ≤ ringDistance s.arbLast r := by
  cases hfind : (ringAfter s.arbLast).find? (waits s) with
  | none => exact absurd hr (List.find?_eq_none.1 hfind r (mem_ringAfter ..))
  | some q =>
    obtain ⟨hq, before, after, hring, hbefore⟩ := List.find?_eq_some_iff_append.1 hfind
    refine ⟨q, by rw [grantNext, hfind], hq, ?_⟩
    have hpairs := ringAfter_pairwise s.arbLast
    have hmem := mem_ringAfter s.arbLast r
    rw [hring, List.pairwise_append, List.pairwise_cons] at hpairs
    rw [hring, List.mem_append, List.mem_cons] at hmem
    obtain ⟨_, ⟨hafter, _⟩, _⟩ := hpairs
    obtain hb | rfl | ha := hmem
    · exact absurd (hbefore r hb) (by simp [hr])
    · exact le_rfl
    · exact (hafter r ha).le

section
variable (s : State) {q : Requester} (hq : q ≠ .orderUnit)

theorem profileAccess_ord : (profileAccess s).ord = s.ord := by
  unfold profileAccess readStateWord
  (repeat' split)
  · exact writePage_ord ..
  · rfl
  · exact unpublished_ord _
  · rfl
  · rfl

theorem profileAccess_arbLast : (profileAccess s).arbLast = s.arbLast := by
  unfold profileAccess readStateWord
  (repeat' split)
  · exact writePage_arbLast ..
  · rfl
  · exact unpublished_arbLast _
  · rfl
  · rfl

include hq

/-- The accesses of the others leave what the order unit has in hand. -/
theorem access_inHand : (access q s).inHand = s.inHand := by
  cases q with
  | portA => rfl
  | portB => rfl
  | orderUnit => exact absurd rfl hq
  | profileEngine => simp only [access, State.inHand, profileAccess_ord, profileAccess_filterView]
  | statusRefresh =>
    have hord : (refreshAccess s).ord = s.ord := by
      unfold refreshAccess
      (repeat' split) <;> rfl
    simp only [access, State.inHand, hord, refreshAccess_filterView]

theorem access_arbLast : (access q s).arbLast = s.arbLast := by
  cases q with
  | portA => rfl
  | portB => rfl
  | orderUnit => exact absurd rfl hq
  | profileEngine => exact profileAccess_arbLast s
  | statusRefresh =>
    simp only [access, refreshAccess]
    (repeat' split) <;> rfl

end

theorem readingCard_iff {s : State} : readingCard s = true ↔ ∃ left c, s.ord.service = some ⟨left, some c⟩ := by
  unfold readingCard
  split
  · next left c hs => simp [hs]
  · next hs => simpa using fun left c => hs left c

/-- With something in hand the order unit waits. -/
theorem waits_of_inHand {s : State} (h : s.ord.answers ≠ [] ∨ readingCard s = true) : waits s .orderUnit = true := by
  obtain ha | hr := h
  · simp [waits, ha]
  · obtain ⟨left, c, hs⟩ := readingCard_iff.1 hr
    simp [waits, hs]

/-- In its turn the order unit goes on with what it has in hand. -/
theorem orderUnitAccess_inHand {s : State} (h : s.ord.answers ≠ [] ∨ readingCard s = true) :
    (orderUnitAccess s).inHand < s.inHand := by
  unfold orderUnitAccess
  cases ha : s.ord.answers with
  | cons a as => exact writeAnswer_inHand ha
  | nil =>
    have hreading := h.resolve_left (not_not.2 ha)
    obtain ⟨left, c, hs⟩ := readingCard_iff.1 hreading
    simp only [hs]
    exact readCard_inHand ha hs

/-- The ring goes on towards the order unit. -/
theorem ringDistance_granted {last q : Requester} (h : ringDistance last q < ringDistance last .orderUnit) :
    ringDistance q .orderUnit < ringDistance last .orderUnit := by
  revert h
  cases last <;> cases q <;> decide

/-- While the order unit may not take a card each grant lowers the number of those to come. -/
theorem grantNext_grantsDue (s : State) (h : mayTake s = false) : (driveLines (grantNext s)).grantsDue < s.grantsDue := by
  change (grantNext s).grantsDue < s.grantsDue
  cases hturn : hisTurn .orderUnit s with
  | true =>
    have hbusy : s.ord.answers ≠ [] ∨ readingCard s = true := by
      simpa [mayTake, hturn, or_iff_not_imp_left] using h
    have hgrant : grantNext s = orderUnitAccess (s.withArbLast .orderUnit) :=
      grantNext_nearest (waits_of_inHand hbusy) fun q hq => not_lt.1 fun hlt => by
        have := (hisTurn_iff .orderUnit s).1 hturn q hlt
        simp [hq] at this
    have hless : (grantNext s).inHand < s.inHand := by
      rw [hgrant]
      exact orderUnitAccess_inHand (s := s.withArbLast .orderUnit) hbusy
    have hring := ringDistance_le (grantNext s).arbLast .orderUnit
    unfold State.grantsDue
    omega
  | false =>
    obtain ⟨r, hr, hnear⟩ : ∃ r, waits s r = true ∧ ringDistance s.arbLast r < ringDistance s.arbLast .orderUnit := by
      by_contra hnone
      refine Bool.eq_false_iff.1 hturn ((hisTurn_iff .orderUnit s).2 fun r hr => ?_)
      exact Bool.eq_false_iff.2 fun hw => hnone ⟨r, hw, hr⟩
    obtain ⟨q, hgrant, hq, hle⟩ := grantNext_waiting hr
    have hbefore : ringDistance s.arbLast q < ringDistance s.arbLast .orderUnit := hle.trans_lt hnear
    have hne : q ≠ .orderUnit := by
      rintro rfl
      exact lt_irrefl _ hbefore
    have hcloser := ringDistance_granted hbefore
    have hfar : 2 ≤ ringDistance q .orderUnit := by
      cases q with
      | portA => cases hq
      | portB => cases hq
      | _ => decide
    rw [hgrant, grantTo, State.grantsDue, State.grantsDue, access_inHand _ hne, access_arbLast _ hne]
    change 3 * s.inHand + (ringDistance q .orderUnit - 2) < _
    omega

/-! ## Taking by command -/

/-- An order's command delivers its card. -/
theorem exec_orderCommand (slot : Slot) {o : Order} (h : ∀ m, o = .stop m → m ≤ 1) (s : State) :
    exec (orderCommand slot o) s = done (deliver slot o s) := by
  cases o with
  | stop m =>
    have hm := h m rfl
    obtain rfl | rfl : m = 0 ∨ m = 1 := by omega
    · rfl
    · rfl
  | _ => rfl

theorem grantsDue_lt_takeFuel (s : State) : s.grantsDue + 1 < takeFuel s := by
  have hle := grantsDue_le s
  unfold takeFuel
  omega

/-- With fuel enough, the grants before a card is taken are one and those after it. -/
theorem grantUntil_takeFuel {s : State} (h : mayTake s = false) : grantUntil mayTake (takeFuel s) s =
    grantUntil mayTake (takeFuel (driveLines (grantNext s))) (driveLines (grantNext s)) := by
  have hless := grantNext_grantsDue s h
  have hs := grantsDue_lt_takeFuel s
  have hu := grantsDue_lt_takeFuel (driveLines (grantNext s))
  generalize takeFuel s = n at hs ⊢
  generalize takeFuel (driveLines (grantNext s)) = m at hu ⊢
  obtain ⟨n, rfl⟩ : ∃ k, n = k + 1 := ⟨n - 1, by omega⟩
  rw [grantUntil, h]
  exact grantUntil_stable State.grantsDue grantNext_grantsDue n m _ (by omega) (by omega)

/-- While the order unit may not take a card, an order's command is a grant and then the same command. -/
theorem deliver_grantNext {s : State} (hrun : s.phase = .running) (h : mayTake s = false) (slot : Slot) (o : Order) :
    deliver slot o s = deliver slot o (driveLines (grantNext s)) := by
  have hrun' : (driveLines (grantNext s)).phase = .running := (grantNext_phase s).trans hrun
  simp only [deliver, whenRunning_of hrun, whenRunning_of hrun', grantUntil_takeFuel h]

theorem cardOrder_code {words : List Word} {o : Order} (h : cardOrder words = some o) : cardCode words = orderCode o := by
  unfold cardOrder at h
  split at h <;> cases h
  all_goals assumption

theorem mayTake_iff {s : State} : mayTake s = true ↔ s.ord.answers = [] ∧ (¬∃ left c, s.ord.service = some ⟨left, some c⟩) ∧
    ∀ r, ringDistance s.arbLast r < ringDistance s.arbLast .orderUnit → waits s r = false := by
  rw [← hisTurn_iff, ← readingCard_iff]
  simp [mayTake, and_assoc]

/-- Settles O25: the card read and the card of the command are marked and checked alike, whatever was granted last; a command that
waits is a grant and the same command, as both have fuel enough (`deliver_grantNext`). -/
theorem takenAtAGrantAsByCommand : Obligations.TakenAtAGrantAsByCommand := by
  unfold Obligations.TakenAtAGrantAsByCommand
  refine ⟨fun s slot left words o h hrun honly ha hs hlen hflight ho hstop => ?agree, fun s slot o h hrun hstop => ?turn⟩
  case agree =>
    set u : State := { s with ord := { s.ord with service := some ⟨left, none⟩ } } with hu
    have htake : mayTake u = true := by
      refine mayTake_iff.2 ⟨ha, by simp [hu], fun r hr => ?_⟩
      have hne : r ≠ .orderUnit := by
        rintro rfl
        exact lt_irrefl _ hr
      have hsame : waits u r = waits s r := by
        cases r with
        | orderUnit => exact absurd rfl hne
        | _ => rfl
      exact hsame.trans (honly.2 r hne)
    have hgrant : grantNext s = trimService (takeCard slot (orderCode o) (some o) u) := by
      rw [honly.grantNext, ← cardOrder_code ho, ← ho]
      simp only [grantTo, access, orderUnitAccess, State.withArbLast_ord, ha, hs, readCard, hlen, Nat.lt_irrefl, if_false]
      rfl
    have hdeliver : deliver slot o u = trimService (takeCard slot (orderCode o) (some o) u) := by
      have hflight' : inFlight u slot = false := hflight
      simp only [deliver, whenRunning_of (s := u) hrun, grantUntil_wanted htake, hflight', Bool.false_eq_true, if_false]
    rw [exec_arbiterGrant_running hrun, exec_orderCommand slot hstop, hgrant, hdeliver]
    rfl
  case turn =>
    intro busy
    have hbusy : busy ↔ mayTake s = false := by
      rw [← Bool.not_eq_true, mayTake_iff]
      simp only [busy, not_and_or, not_not, not_forall, Bool.not_eq_false, exists_prop, ne_eq]
    rw [exec_orderCommand slot hstop]
    refine ⟨fun hb => ⟨_, exec_arbiterGrant_running hrun, ?_⟩, fun hb hflight => ?_⟩
    · rw [exec_orderCommand slot hstop, deliver_grantNext hrun (hbusy.1 hb)]
    · have htake : mayTake s = true := by
        rw [hbusy, Bool.not_eq_false] at hb
        exact hb
      have hdeliver : deliver slot o s = s := by
        simp only [deliver, whenRunning_of hrun, grantUntil_wanted htake, hflight, if_true]
      rw [hdeliver, done, h]

end Sys2Proof.Machine
end

section
/-! PROOFS. Chapter 95, the queue: the front command is the one executed (O1), and no command touches the queue or fails (O2). -/

namespace Sys2Proof.Machine

open Sys2Proof

/-- Settles O1: `step` is the case split on the queue. -/
theorem stepRunsTheFrontCommand : Obligations.StepRunsTheFrontCommand := by
  unfold Obligations.StepRunsTheFrontCommand
  refine ⟨fun c rest s => rfl, fun s hempty => ?_⟩
  simp only [step, hempty]

/-! ## What the commands' effects leave of the queue -/

section
variable (s : State)

theorem endDwell_pending : (endDwell s).pending = s.pending := congrArg Surround.pending (endDwell_surround s)

theorem takeTickEvent_pending (e : TickEvent) : (takeTickEvent s e).pending = s.pending :=
  congrArg Surround.pending (takeTickEvent_surround s e)

theorem startQueued_pending : (startQueued s).pending = s.pending := congrArg Surround.pending (startQueued_surround s)

theorem takeSampleBreak_pending : (takeSampleBreak s).pending = s.pending := congrArg Surround.pending (takeSampleBreak_surround s)

theorem encoderEdge_pending (b : Beam) (d : Direction) : (encoderEdge b d s).pending = s.pending :=
  congrArg Surround.pending (encoderEdge_surround b d s)

theorem endHoldoff_pending (k : AlarmKind) : (endHoldoff k s).pending = s.pending := by
  unfold endHoldoff
  split
  · exact congrArg Surround.pending (moveEntry_surround ..)
  · rfl

theorem beginClear_pending : (beginClear s).pending = s.pending := by
  unfold beginClear
  split <;> rfl

theorem endClear_pending : (endClear s).pending = s.pending := by
  unfold endClear
  split <;> rfl

theorem grantPageWrite_pending : (grantPageWrite s).pending = s.pending := by
  unfold grantPageWrite
  split
  · rfl
  · exact writePage_pending _ _

theorem arbitrate_pending : (arbitrate s).pending = s.pending := by
  unfold arbitrate
  split
  · rfl
  · exact clearAccess_pending _ s
  · exact grantNext_pending s

theorem softReset_pending (value : Half) :
    (softResetBlocks (grantPageWrite (softResetOrders (withMask value s)))).pending = s.pending := by
  rw [softResetBlocks_pending, grantPageWrite_pending, softResetOrders_pending, withMask_pending]

theorem portPhase_pending {f g : State → State} (hf : (f s).pending = s.pending) (hg : (g s).pending = s.pending) :
    (portPhase s f g).pending = s.pending :=
  portPhase_inv (p := fun t => t.pending = s.pending) rfl (fun _ => hf) fun _ => hg

end

/-! ## Every command -/

/-- A command answers the state its effect leaves, the lines driven. -/
theorem done_keepsQueue {s u : State} (h : u.pending = s.pending) : ∃ t, done u = .next t ∧ t.pending = s.pending :=
  ⟨driveLines u, rfl, h⟩

/-- A command that acts only while the part runs. -/
theorem done_whenRunning_keepsQueue {f : State → State} (h : ∀ u, (f u).pending = u.pending) (s : State) :
    ∃ t, done (whenRunning s f) = .next t ∧ t.pending = s.pending :=
  done_keepsQueue (whenRunning_keeps State.pending h s)

/-- Settles O2: command by command, the effect leaves the queue. -/
theorem everyCommandAnswersNext : Obligations.EveryCommandAnswersNext := by
  unfold Obligations.EveryCommandAnswersNext
  intro c s
  have running {f : State → State} (h : ∀ u, (f u).pending = u.pending) := done_whenRunning_keepsQueue h s
  cases c with
  | pinReset => exact done_keepsQueue (u := pinReset s) rfl
  | startUpClear => exact done_keepsQueue (beginClear_pending s)
  | startUpClearEnd => exact done_keepsQueue (endClear_pending s)
  | softReset v => exact running fun u => softReset_pending u v
  | setNoticeMask v => exact running (withMask_pending v)
  | noticeClear v => exact running fun _ => rfl
  | nudge high v => exact running requestService_pending
  | registerWriteIgnored target v => exact done_keepsQueue rfl
  | portALowHalfWrite addr data => exact done_keepsQueue (portPhase_pending s rfl (lowHalfWrite_pending addr data s))
  | portAHighHalfWrite addr data => exact done_keepsQueue (portPhase_pending s rfl (highHalfWrite_pending addr data s))
  | portALowHalfRead addr => exact done_keepsQueue (portPhase_pending s rfl (lowHalfRead_pending addr s))
  | portAHighHalfRead addr => exact done_keepsQueue (portPhase_pending s rfl (highHalfRead_pending addr s))
  | portBRead bytes => exact done_keepsQueue (portBBytes_pending .read bytes s)
  | portBWrite bytes => exact done_keepsQueue (portBBytes_pending .write bytes s)
  | portBOtherCommand command bytes => exact done_keepsQueue (portBBytes_pending .other bytes s)
  | portBTransferEnd => exact done_keepsQueue (u := s.onPortB _) rfl
  | arbiterGrant => exact done_keepsQueue (arbitrate_pending s)
  | serviceTick brkIn o => exact running (serviceTick_pending brkIn o)
  | queuedCardService => exact running startQueued_pending
  | sampleStrobe => exact running strobe_pending
  | headLinkTransferComplete f => exact running (completeTransfer_pending f)
  | formSampleRecord =>
    refine running fun u => ?_
    split
    · rfl
    · exact formRecord_pending _ u
  | recordTaken =>
    refine running fun u => ?_
    split <;> rfl
  | sampleBreak =>
    refine running fun u => ?_
    split
    · exact takeSampleBreak_pending u
    · rfl
  | externalBreak => exact running fun u => takeTickEvent_pending u .externalBreak
  | probeSheetOn => exact running fun u => takeTickEvent_pending u .probeSheetOn
  | quadratureEdge b d => exact done_keepsQueue (whenReleased_keeps State.pending (encoderEdge_pending · b d) s)
  | moveTimeout => exact running fun u => takeTickEvent_pending u .moveTimeout
  | homeSwitch b active => exact done_keepsQueue (homeLine_pending b active s)
  | limitSwitch b l asserted => exact done_keepsQueue (limitLine_pending b l asserted s)
  | frameOkLow low => exact done_keepsQueue (frameOkLine_pending low s)
  | drvOkLow b low => exact done_keepsQueue (drvOkLine_pending b low s)
  | dwellEnd => exact running endDwell_pending
  | holdoffEnd k => exact running (endHoldoff_pending · k)
  | flashHalf => exact running fun _ => rfl
  | hornHalfPeriod =>
    refine running fun u => ?_
    split <;> rfl
  | exportFrameStart => exact running frameStart_pending
  | exportFrameEnd => exact running frameEnd_pending
  | publicationComplete =>
    refine running fun u => ?_
    split
    · exact (grantTo_pending ..).trans (waitTurn_pending ..)
    · rfl
  | setFrame slot | home slot | scan slot | stopEnd slot | stopNow slot | moveTo slot | park slot | setTimebase slot | setCal slot
  | setProfile slot | reseed slot | standardize slot | setStd slot | setSheet slot | resume slot | setAlarm slot | ackAlarms slot
  | silenceHorn slot | setHorn slot | setExport slot | setGuard slot | clearGuardFault slot =>
    exact done_keepsQueue (deliver_pending slot _ s)

end Sys2Proof.Machine
end

section
/-! PROOFS. Chapter 12, order cards: examining slots and reading cards (O24), a card's words and the order they carry (O26), and the order
unit's checks (O27). -/

namespace Sys2Proof.Machine

open Sys2Proof

/-! ## A service examines slots and reads words (R208, R209) -/

/-- A service that stands before a slot and owes no answer passes over the cards in flight. -/
theorem trimService_passes {s : State} {left : List Slot} (ha : s.ord.answers = []) :
    trimService (s.onOrd fun o => { o with service := some ⟨left, none⟩ }) = s.onOrd fun o => { o with
      service := if left.dropWhile (inFlight s) = [] then none else some ⟨left.dropWhile (inFlight s), none⟩ } := by
  have hsame : inFlight (s.onOrd fun o => { o with service := some ⟨left, none⟩ }) = inFlight s := rfl
  simp only [trimService, State.onOrd_ord, ha, hsame, List.isEmpty_iff]
  rfl

/-- A service waits for the answers owed before it passes over slots (R210). -/
theorem trimService_owing {s : State} (h : s.ord.answers ≠ []) : trimService s = s := by
  obtain ⟨v, hv, hkept⟩ := trimService_eq s
  rw [hv, hkept h]

theorem examineSlot_posted {s : State} {slot : Slot} {left : List Slot} (h : s.mem.readWord (cardWord slot 0) = 1) :
    examineSlot (slot :: left) s = s.onOrd fun o => { o with service := some ⟨left, some ⟨slot, []⟩⟩ } :=
  if_pos h

theorem examineSlot_passed {s : State} {slot : Slot} {left : List Slot} (h : s.mem.readWord (cardWord slot 0) ≠ 1) :
    examineSlot (slot :: left) s = trimService (s.onOrd fun o => { o with service := some ⟨left, none⟩ }) :=
  if_neg h

theorem readCard_reading {s : State} {left : List Slot} {slot : Slot} {words : List Word} (h : words.length < 13) :
    readCard left ⟨slot, words⟩ s = s.onOrd fun o => { o with
      service := some ⟨left, some ⟨slot, words ++ [s.mem.readWord (cardWord slot (1 + words.length))]⟩⟩ } :=
  if_pos h

theorem readCard_read {s : State} {left : List Slot} {slot : Slot} {words : List Word} (h : words.length = 13) :
    readCard left ⟨slot, words⟩ s = trimService (takeCard slot (cardCode words) (cardOrder words)
      (s.onOrd fun o => { o with service := some ⟨left, none⟩ })) :=
  if_neg (by dsimp only; omega)

section
variable {s : State} (ha : s.ord.answers = [])
include ha

theorem orderUnitAccess_examining {left : List Slot} (h : s.ord.service = some ⟨left, none⟩) :
    orderUnitAccess s = examineSlot left s := by
  simp only [orderUnitAccess, ha, h]

theorem orderUnitAccess_reading {left : List Slot} {c : CardRead} (h : s.ord.service = some ⟨left, some c⟩) :
    orderUnitAccess s = readCard left c s := by
  simp only [orderUnitAccess, ha, h]

end

/-- A grant whose access changes the order unit alone. -/
theorem OnlyWaits.exec_arbiterGrant_onOrd {s : State} (hr : OnlyWaits s .orderUnit) (hs : Serving s) (f : OrderUnit → OrderUnit)
    (h : orderUnitAccess (s.withArbLast .orderUnit) = (s.withArbLast .orderUnit).onOrd f) :
    exec .arbiterGrant s = .next { s with arbLast := .orderUnit, ord := f s.ord } :=
  hr.exec_arbiterGrant_of hs (fun u => (u.withArbLast .orderUnit).onOrd f) h rfl

/-- Settles O24: one access of the service, by what its slot holds (`examineSlot_posted`, `examineSlot_passed`) or by how much of the card
is read (`readCard_reading`); no line looks at it. -/
theorem serviceExaminesAndReadsCards : Obligations.ServiceExaminesAndReadsCards := by
  unfold Obligations.ServiceExaminesAndReadsCards
  intro s slot left hs hr ha
  have ha' : (s.withArbLast .orderUnit).ord.answers = [] := ha
  refine ⟨fun hservice => ?examined, fun words hservice hless => ?read⟩
  case examined =>
    by_cases hposted : s.mem.readWord (cardWord slot 0) = 1
    · have hexec := hr.exec_arbiterGrant_onOrd hs _ ((orderUnitAccess_examining ha' hservice).trans (examineSlot_posted hposted))
      exact ⟨_, hexec, rfl, rfl, fun _ => rfl, fun hnot => absurd hposted hnot⟩
    · have hexec := hr.exec_arbiterGrant_onOrd hs _ ((orderUnitAccess_examining ha' hservice).trans
        ((examineSlot_passed (s := s.withArbLast .orderUnit) hposted).trans (trimService_passes ha')))
      exact ⟨_, hexec, rfl, rfl, fun h => absurd h hposted, fun _ => rfl⟩
  case read => exact hr.exec_arbiterGrant_onOrd hs _ ((orderUnitAccess_reading ha' hservice).trans (readCard_reading hless))

/-! ## A card's words (12, the card) -/

theorem highHalf_joinHalves (lo hi : Half) : highHalf (joinHalves lo hi) = hi := BitVec.extractLsb'_append_eq_left

theorem orderWords_length (tag : Half) (o : Order) : (orderWords tag o).length = 13 := by
  simp [orderWords]

/-- The code stands in the low half of word 1, whatever the tag in its high half. -/
theorem cardCode_orderWords (tag : Half) (o : Order) : cardCode (orderWords tag o) = orderCode o := by
  have hcode : (BitVec.ofNat 16 (orderCode o)).toNat = orderCode o := by
    cases o <;> rfl
  simpa [cardCode, orderWords, lowHalf_joinHalves] using hcode

/-- Each of the 24 parameters is read back from its half of its word. -/
theorem cardParam_orderWords (tag : Half) (o : Order) {i : Nat} (hi : i < 24) :
    cardParam (orderWords tag o) i = (orderParams o).getD i 0 := by
  have hword : (orderWords tag o).getD (1 + i / 2) 0 =
      joinHalves ((orderParams o).getD (2 * (i / 2)) 0) ((orderParams o).getD (2 * (i / 2) + 1) 0) := by
    have hlt : i / 2 < 12 := by omega
    rw [orderWords, Nat.add_comm, List.getD_cons_succ]
    simp [List.getD_eq_getElem?_getD, hlt]
  unfold cardParam
  dsimp only
  rw [hword]
  split
  · next heven =>
    rw [lowHalf_joinHalves]
    congr 1
    omega
  · next hodd =>
    rw [highHalf_joinHalves]
    congr 1
    omega

/-- The parameters of a card as unsigned numbers, each at any value that a halfword admits. -/
theorem paramNat_orderWords (tag : Half) {o : Order} {params : List Nat} (hp : orderParams o = params.map (BitVec.ofNat 16))
    (hn : params.all fitsHalf = true) {i : Nat} (hi : i < 24) : paramNat (orderWords tag o) i = params.getD i 0 := by
  rw [paramNat, cardParam_orderWords tag o hi, hp]
  cases hget : params[i]? with
  | none => simp [hget]
  | some n =>
    have hlt : n < 65536 := of_decide_eq_true (List.all_eq_true.1 hn n (List.mem_of_getElem? hget))
    simp [hget, Nat.mod_eq_of_lt hlt]

/-- The one signed parameter, at any value that a halfword admits. -/
theorem toInt_ofInt_of_fitsSignedHalf {i : Int} (h : fitsSignedHalf i = true) : (BitVec.ofInt 16 i).toInt = i := by
  obtain ⟨hlo, hhi⟩ : -32768 ≤ i ∧ i ≤ 32767 := by simpa [fitsSignedHalf] using h
  exact BitVec.toInt_ofInt_eq_self (by decide) (by omega) (by omega)

/-- A card with the order carries it, where each parameter fits its halfword; the offset of SET_CAL is the one signed parameter. -/
theorem cardOrder_orderWords {slot : Slot} {o : Order} (tag : Half) (hwf : WellFormed (orderCommand slot o))
    (hstop : ∀ m, o = .stop m → fitsHalf m = true) : cardOrder (orderWords tag o) = some o := by
  have hcode := cardCode_orderWords tag o
  have hparam (params : List Nat) (hp : orderParams o = params.map (BitVec.ofNat 16)) (hn : params.all fitsHalf = true) (i : Nat)
      (hi : i < 24) := paramNat_orderWords tag hp hn hi
  cases o with
  | home | park | reseed | standardize | resume | silenceHorn | clearGuardFault => simp only [cardOrder, hcode, orderCode]
  | setFrame r | setProfile r | setStd r | setSheet r | setAlarm r | setExport r | setGuard r =>
    simp [cardOrder, hcode, orderCode, hparam _ rfl hwf]
  | scan n | moveTo n | ackAlarms n | setHorn n =>
    simp [cardOrder, hcode, orderCode, hparam [n] rfl (by simpa [WellFormed, orderCommand, Instr.wf] using hwf)]
  | setTimebase tick sample =>
    simp [cardOrder, hcode, orderCode, hparam [tick, sample] rfl (by simpa [WellFormed, orderCommand, Instr.wf] using hwf)]
  | stop m => simp [cardOrder, hcode, orderCode, hparam [m] rfl (by simpa using hstop m rfl)]
  | setCal c v =>
    obtain ⟨hc, hv, hoffset⟩ : fitsHalf c = true ∧ [v.gain, v.refZero, v.driftLimit, v.stepLimit].all fitsHalf = true ∧
        fitsSignedHalf v.offset = true := by
      simpa only [orderCommand, Instr.wf, CalValues.wf, WellFormed, Bool.and_eq_true] using hwf
    have hhalf : fitsHalf (BitVec.ofInt 16 v.offset).toNat = true := decide_eq_true (BitVec.isLt _)
    have hread := hparam [c, v.gain, (BitVec.ofInt 16 v.offset).toNat, v.refZero, v.driftLimit, v.stepLimit]
      (by simp only [orderParams, List.map, BitVec.ofNat_toNat, BitVec.setWidth_eq])
      (by simp_all only [List.all_cons, List.all_nil, Bool.and_eq_true, and_true, and_self])
    have hsigned : (cardParam (orderWords tag (.setCal c v)) 2).toInt = v.offset := by
      rw [cardParam_orderWords tag _ (by decide)]
      exact toInt_ofInt_of_fitsSignedHalf hoffset
    simp [cardOrder, hcode, orderCode, hread, hsigned]

/-- Settles O26: the code and the parameters are read back from their halves (`cardCode_orderWords`, `paramNat_orderWords`). -/
theorem cardsDecodeToTheirOrders : Obligations.CardsDecodeToTheirOrders := by
  unfold Obligations.CardsDecodeToTheirOrders
  intro slot o tag hwf hstop
  exact ⟨orderWords_length tag o, cardCode_orderWords tag o, cardOrder_orderWords tag hwf hstop⟩

/-! ## The order unit's checks (R210) -/

/-- The order unit's ranges are those of the table of orders. -/
theorem orderInRange_iff (o : Order) : orderInRange o = true ↔ AdmittedByTable o := by
  cases o with
  | home | moveTo | park | reseed | standardize | resume | silenceHorn | clearGuardFault => simp only [orderInRange, AdmittedByTable]
  | ackAlarms mask => simp only [orderInRange, AdmittedByTable, decide_eq_true_eq]
  | setTimebase tick sample => exact orderInRange_setTimebase
  | setFrame r =>
    simp only [orderInRange, AdmittedByTable, FrameFieldsInRange, FrameCrossChecks, within, Bool.and_eq_true, Bool.or_eq_true,
      decide_eq_true_eq, beq_iff_eq]
    omega
  | scan n | stop n | setHorn n =>
    simp only [orderInRange, AdmittedByTable, within, Bool.and_eq_true, decide_eq_true_eq]
    omega
  | setCal c v =>
    simp only [orderInRange, AdmittedByTable, within, Bool.and_eq_true, decide_eq_true_eq]
    omega
  | setProfile r | setStd r | setSheet r | setAlarm r | setExport r =>
    simp only [orderInRange, AdmittedByTable, ProfileInRange, SheetInRange, within, Bool.and_eq_true, decide_eq_true_eq]
    omega
  | setGuard c =>
    simp only [orderInRange, AdmittedByTable, GuardInRange, within]
    split
    · next hrange =>
      simp only [Bool.and_eq_true, decide_eq_true_eq]
      omega
    · next hpolicy =>
      simp only [Bool.and_eq_true, decide_eq_true_eq]
      omega

section
variable {slot : Slot} {code : Nat}

/-- The first check: a B group slot takes three codes alone. -/
theorem cardRefusal_notPermitted (h : (inGroupB slot && !allowedInB code) = true) (o : Option Order) :
    cardRefusal slot code o = some .notPermitted :=
  if_pos h

/-- The second check, of a card whose code is in no row of the table. -/
theorem cardRefusal_none (h : (inGroupB slot && !allowedInB code) = false) : cardRefusal slot code none = some .unknownOrder :=
  if_neg (Bool.eq_false_iff.1 h)

/-- The third check, of the parameters. -/
theorem cardRefusal_some (h : (inGroupB slot && !allowedInB code) = false) (o : Order) :
    cardRefusal slot code (some o) = if orderInRange o then none else some .badParam :=
  if_neg (Bool.eq_false_iff.1 h)

end

/-- A B group slot takes no code that is in no row of the table. -/
theorem allowedInB_of_unknown {words : List Word} (h : cardOrder words = none) : allowedInB (cardCode words) = false := by
  refine Bool.eq_false_iff.2 fun hB => ?_
  have hcode : (cardCode words = 0x18 ∨ cardCode words = 0x29) ∨ cardCode words = 0x2A := by simpa [allowedInB] using hB
  rcases hcode with (hcode | hcode) | hcode <;> simp [cardOrder, hcode] at h

/-- A card that no order command stands for: of a code in no row of the table, or a STOP of another mode than 0 and 1. -/
def NoCommand (o : Option Order) : Prop := o = none ∨ ∃ m, o = some (.stop m) ∧ 1 < m

/-- Such a card meets the first check that refuses it. -/
theorem cardRefusal_noCommand {words : List Word} (h : NoCommand (cardOrder words)) (slot : Slot) :
    cardRefusal slot (cardCode words) (cardOrder words) = some (if 12 ≤ slot.val then .notPermitted
      else if cardOrder words = none then .unknownOrder else .badParam) := by
  have hB : allowedInB (cardCode words) = false := by
    obtain hnone | ⟨m, hm, _⟩ := h
    · exact allowedInB_of_unknown hnone
    · rw [cardOrder_code hm]
      rfl
  split
  · next hslot => exact cardRefusal_notPermitted (by simpa [inGroupB, hB] using hslot) _
  · next hslot =>
    have hA : (inGroupB slot && !allowedInB (cardCode words)) = false := by simpa [inGroupB, hB] using hslot
    obtain hnone | ⟨m, hm, hmode⟩ := h
    · rw [hnone]
      exact cardRefusal_none hA
    · rw [hm, cardRefusal_some hA]
      simp [orderInRange, within, hmode]

/-- A card that the checks refuse is answered by the order unit. -/
theorem takeCard_refused {slot : Slot} {code : Nat} {o : Option Order} {k : ResultCode} (h : cardRefusal slot code o = some k)
    (s : State) : takeCard slot code o s = answer slot k 0 (markTaken slot code o s) := by
  simp only [takeCard, checkCard, h]

/-- The grant that writes TAKEN for a card that the checks refuse. -/
theorem exec_arbiterGrant_refused {s : State} {slot : Slot} {left : List Slot} {words : List Word} {k : ResultCode} (hs : Serving s)
    (hr : OnlyWaits s .orderUnit) (ha : s.ord.answers = []) (hservice : s.ord.service = some ⟨left, some ⟨slot, words⟩⟩)
    (hlen : words.length = 13) (hk : cardRefusal slot (cardCode words) (cardOrder words) = some k) :
    exec .arbiterGrant s = .next { s with
      mem := s.mem.writeWord (cardWord slot 0) cardTaken
      arbLast := .orderUnit
      ord := { s.ord with
        lastSlot := slot
        service := some ⟨left, none⟩
        inFlight := s.ord.inFlight ++ [⟨slot, cardCode words, cardOwner (cardOrder words)⟩]
        answers := s.ord.answers ++ [answerOf slot k 0] } } := by
  refine hr.exec_arbiterGrant_of hs (fun u => { u with
    mem := s.mem.writeWord (cardWord slot 0) cardTaken
    arbLast := .orderUnit
    ord := { s.ord with
      lastSlot := slot
      service := some ⟨left, none⟩
      inFlight := s.ord.inFlight ++ [⟨slot, cardCode words, cardOwner (cardOrder words)⟩]
      answers := s.ord.answers ++ [answerOf slot k 0] } }) ?_ rfl
  have hread := (orderUnitAccess_reading (s := s.withArbLast .orderUnit) ha hservice).trans (readCard_read hlen)
  rw [takeCard_refused hk, trimService_owing (by simp [answer, queueAnswer])] at hread
  exact hread

/-- Settles O27: the refusals of the checks in their order (`cardRefusal_notPermitted`, `cardRefusal_some`, `orderInRange_iff`) reach an
order command by `refused_now`, and a card read through memory by `exec_arbiterGrant_refused`. -/
theorem checksRefuseBeforeTheOwner : Obligations.ChecksRefuseBeforeTheOwner := by
  unfold Obligations.ChecksRefuseBeforeTheOwner
  refine ⟨fun s slot o hs hstop => ?command, fun s slot left words hs hr ha hservice hlen hno => ?grant⟩
  case command =>
    have refused {k : ResultCode} (hk : cardRefusal slot (orderCode o) (some o) = some k) :=
      refused_now hs hk (exec_orderCommand slot hstop s)
    refine ⟨fun hB => refused (cardRefusal_notPermitted hB _), fun hB hout => refused ?_, fun hB hin => ?_⟩
    · rw [cardRefusal_some hB, if_neg ((orderInRange_iff o).not.2 hout)]
    · exact (cardRefusal_some hB o).trans (if_pos ((orderInRange_iff o).2 hin))
  case grant =>
    refine ⟨_, exec_arbiterGrant_refused hs hr ha hservice hlen (cardRefusal_noCommand hno slot),
      Memory.readWord_writeWord _ _ hs.memory, fun a hother => ?_, ?_, rfl⟩
    · exact Memory.read_writeWord_other _ hs.memory (by unfold inWord at hother; omega)
    · have howner : cardOwner (cardOrder words) = if cardOrder words = none then .orderUnit else .carriage := by
        obtain hnone | ⟨m, hm, _⟩ := hno
        · rw [hnone]; rfl
        · rw [hm]; rfl
      simp only [ha, howner, List.nil_append, answerOf]
      split_ifs <;> rfl

end Sys2Proof.Machine
end
